-- ==== Sys2Proof/Word.lean ====
section
/-! DEFINITION. The byte, the unit in which every frame of the Bremlo 7240 is exchanged (R174). -/

namespace Sys2Proof

/-- A byte on a serial line (R174: every frame is made of 8-bit bytes). -/
abbrev Byte := BitVec 8

end Sys2Proof
end

