-- ==== Sys2Proof/Syntax.lean ====
section
/-! DEFINITION. The commands of the part: one constructor of `Instr` per row of spec/opcode_table.json.
A request row carries the port its frame arrived on, the frame's tag and the parameter bytes that follow the tag. -/

namespace Sys2Proof

/-- The three master ports (introduction, "The masters and the sensor links"), in the order R174 numbers them. -/
inductive Port where
  | kiln | line | yard
  deriving DecidableEq, Repr

/-- The level of a DOOR input or of a debounced door state (R88). -/
inductive DoorLevel where
  | opened | closed
  deriving DecidableEq, Repr

/-- A chamber number, 0..3. -/
abbrev ChamberNo := Fin 4

/-- The named requests of R153, in the order R174 numbers their codes. -/
inductive Request where
  | load | start | hold | resume | step | skipPhase | abort | release | check | probeEnable | chamberSet
  | draw | endDraw | closePack
  | newCharge | deleteCharge | write | commitSchedule | clearSchedule | packPlan | nextLabel | ackLabel | reprint | setTime
  | setCursor | read | readNotices | setNoticeMask | status | mark
  deriving DecidableEq, Repr

/-- The commands. A request constructor stands for a valid request frame of that request whose last byte has arrived at
port `p`; `params` are the body bytes after the request code and the tag (R149, R174). -/
inductive Instr where
  /-- LOAD (R64): bind a charge to an empty chamber. -/
  | load (p : Port) (tag : Byte) (params : List Byte)
  /-- START (R65): begin a drying run. -/
  | start (p : Port) (tag : Byte) (params : List Byte)
  /-- HOLD (R71), a run command. -/
  | hold (p : Port) (tag : Byte) (params : List Byte)
  /-- RESUME (R72), a run command. -/
  | resume (p : Port) (tag : Byte) (params : List Byte)
  /-- STEP (R73), a run command. -/
  | step (p : Port) (tag : Byte) (params : List Byte)
  /-- SKIP-PHASE (R74), a run command. -/
  | skipPhase (p : Port) (tag : Byte) (params : List Byte)
  /-- ABORT (R68): end a run at once. -/
  | abort (p : Port) (tag : Byte) (params : List Byte)
  /-- RELEASE (R69): unbind the charge. -/
  | release (p : Port) (tag : Byte) (params : List Byte)
  /-- CHECK (R53): correct a probe slot to an oven-dry result. -/
  | check (p : Port) (tag : Byte) (params : List Byte)
  /-- PROBE-ENABLE (R51): choose the sample slots a chamber reads. -/
  | probeEnable (p : Port) (tag : Byte) (params : List Byte)
  /-- CHAMBER-SET (R85): replace the settings of one chamber. -/
  | chamberSet (p : Port) (tag : Byte) (params : List Byte)
  /-- DRAW (R118): begin planing a released charge. -/
  | draw (p : Port) (tag : Byte) (params : List Byte)
  /-- END-DRAW (R119): stop taking boards for the drawn charge. -/
  | endDraw (p : Port) (tag : Byte) (params : List Byte)
  /-- CLOSE-PACK (R132): close the open pack now. -/
  | closePack (p : Port) (tag : Byte) (params : List Byte)
  /-- NEW-CHARGE (R9): create a charge record. -/
  | newCharge (p : Port) (tag : Byte) (params : List Byte)
  /-- DELETE-CHARGE (R11): free a charge record. -/
  | deleteCharge (p : Port) (tag : Byte) (params : List Byte)
  /-- WRITE with the cursor on STAGING (R23, R156). The frame is a WRITE; the port's cursor says which table it reaches. -/
  | writeStaging (p : Port) (tag : Byte) (params : List Byte)
  /-- WRITE with the cursor on SPECIES (R29, R156). The frame is a WRITE; the port's cursor says which table it reaches. -/
  | writeSpecies (p : Port) (tag : Byte) (params : List Byte)
  /-- COMMIT-SCHEDULE (R25). -/
  | commitSchedule (p : Port) (tag : Byte) (params : List Byte)
  /-- CLEAR-SCHEDULE (R26). -/
  | clearSchedule (p : Port) (tag : Byte) (params : List Byte)
  /-- PACK-PLAN (R123). -/
  | packPlan (p : Port) (tag : Byte) (params : List Byte)
  /-- NEXT-LABEL (R144). -/
  | nextLabel (p : Port) (tag : Byte) (params : List Byte)
  /-- ACK-LABEL (R145). -/
  | ackLabel (p : Port) (tag : Byte) (params : List Byte)
  /-- REPRINT (R146). -/
  | reprint (p : Port) (tag : Byte) (params : List Byte)
  /-- SET-TIME (R165). -/
  | setTime (p : Port) (tag : Byte) (params : List Byte)
  /-- SET-CURSOR (R154). -/
  | setCursor (p : Port) (tag : Byte) (params : List Byte)
  /-- READ (R155). -/
  | read (p : Port) (tag : Byte) (params : List Byte)
  /-- READ-NOTICES (R160). -/
  | readNotices (p : Port) (tag : Byte) (params : List Byte)
  /-- SET-NOTICE-MASK (R160). -/
  | setNoticeMask (p : Port) (tag : Byte) (params : List Byte)
  /-- STATUS (R158). -/
  | status (p : Port) (tag : Byte) (params : List Byte)
  /-- MARK (R101). -/
  | mark (p : Port) (tag : Byte) (params : List Byte)
  /-- A valid request frame whose code names no request (R151). -/
  | unknownRequest (p : Port) (code : Byte) (tag : Byte)
  /-- A whole request frame whose CRC fails (R150). -/
  | requestFrameCrcFail (p : Port)
  /-- A length byte taken in FRAME (R149): one outside 2..64 ends the frame. -/
  | portFrameBadLength (p : Port) (len : Byte)
  /-- The 250 ms frame window of a port ends (R149). -/
  | portFrameWindowExpiry (p : Port)
  /-- The last byte of a response has been sent (R152). -/
  | responseSent (p : Port)
  /-- A whole probe frame: the five bytes after its start byte (R34, R175). -/
  | probeFrame (chamber channel codeHigh codeLow checkByte : Byte)
  /-- The 50 ms frame window of the probe link ends (R34). -/
  | probeFrameWindowExpiry
  /-- A whole board frame: the six bytes after its start byte (R103, R175). -/
  | boardFrame (sequence mcHigh mcLow lengthHigh lengthLow checkByte : Byte)
  /-- The 50 ms frame window of the board link ends (R103). -/
  | boardFrameWindowExpiry
  /-- The tally takes the oldest FIFO record into a pack (R127). -/
  | tallyMove
  /-- The draw end (R121). -/
  | drawEnd
  /-- The line-silence countdown reaches 0 (R133). -/
  | lineSilenceExpiry
  /-- A chamber's countdown reaches 0 (R75). -/
  | evaluationInstant (c : ChamberNo)
  /-- The sampled level of a DOOR input (R89). -/
  | doorInputChange (c : ChamberNo) (level : DoorLevel)
  /-- A debounce reaches its period (R89). -/
  | doorDebounceExpiry (c : ChamberNo)
  /-- Open time first passes the door limit in a door hold (R91). -/
  | doorLimitPassed (c : ChamberNo)
  /-- Mill time passes its greatest value (R164). -/
  | millTimeWrap
  /-- VBAT enters (true) or leaves (false) the backup range (R168). -/
  | vbatRangeChange (inRange : Bool)
  /-- Main power falls (R168). -/
  | mainPowerLoss
  /-- Main power returns, the hold marker being set; the door inputs read as given (R169, R94). -/
  | powerReturn (d0 d1 d2 d3 : DoorLevel)
  /-- Main power returns, the hold marker being clear; the door inputs read as given (R170, R94). -/
  | clearedStart (d0 d1 d2 d3 : DoorLevel)
  /-- RESET released before the hold reaches 2 s (R171). -/
  | portReset
  /-- RESET held for 2 s (R172). -/
  | clearReset
  /-- A start byte arrives at a master port (R149). -/
  | portStartByte (p : Port)
  /-- A start byte arrives on the probe link (R34). -/
  | probeStartByte
  /-- A start byte arrives on BOARD_IN (R103). -/
  | boardStartByte
  deriving DecidableEq, Repr

end Sys2Proof
end

