-- ==== Sys2Proof/WellFormed.lean ====
section
/-! DEFINITION. Which terms of `Instr` stand for something that can happen at the part's pins: a request body of at most
64 bytes (R149), an unknown code that names no request (R151), a bad length byte outside 2..64 (R149). -/

namespace Sys2Proof

/-- Body bytes of a request frame: 2..64, of which the code and the tag take two (R149, R174). -/
def paramsFit (params : List Byte) : Bool := params.length ≤ 62

/-- Codes 01h to 1Eh name requests (R174). -/
def codeInUse (code : Byte) : Bool := 1 ≤ code.toNat && code.toNat ≤ 0x1E

/-- A length byte of 2..64 (R149). -/
def lengthByteGood (len : Byte) : Bool := 2 ≤ len.toNat && len.toNat ≤ 64

/-- The well-formed commands. -/
def Instr.wf : Instr → Bool
  | .load _ _ ps | .start _ _ ps | .hold _ _ ps | .resume _ _ ps | .step _ _ ps | .skipPhase _ _ ps | .abort _ _ ps
  | .release _ _ ps | .check _ _ ps | .probeEnable _ _ ps | .chamberSet _ _ ps | .draw _ _ ps | .endDraw _ _ ps
  | .closePack _ _ ps | .newCharge _ _ ps | .deleteCharge _ _ ps | .writeStaging _ _ ps | .writeSpecies _ _ ps
  | .commitSchedule _ _ ps | .clearSchedule _ _ ps | .packPlan _ _ ps | .nextLabel _ _ ps | .ackLabel _ _ ps
  | .reprint _ _ ps | .setTime _ _ ps | .setCursor _ _ ps | .read _ _ ps | .readNotices _ _ ps
  | .setNoticeMask _ _ ps | .status _ _ ps | .mark _ _ ps => paramsFit ps
  | .unknownRequest _ code _ => !codeInUse code
  | .portFrameBadLength _ len => !lengthByteGood len
  | .requestFrameCrcFail _ | .portFrameWindowExpiry _ | .responseSent _ | .probeFrame .. | .probeFrameWindowExpiry
  | .boardFrame .. | .boardFrameWindowExpiry | .tallyMove | .drawEnd | .lineSilenceExpiry | .evaluationInstant _
  | .doorInputChange _ _ | .doorDebounceExpiry _ | .doorLimitPassed _ | .millTimeWrap | .vbatRangeChange _
  | .mainPowerLoss | .powerReturn .. | .clearedStart .. | .portReset | .clearReset | .portStartByte _
  | .probeStartByte | .boardStartByte => true

end Sys2Proof
end

