-- ==== Sys2Proof/Decode.lean ====
section
/-! DEFINITION. The bytes of frames: byte order, the CRC and the check byte (R174, R175), the request codes, what a port
controller reads from a received frame, and the frame of a request command. The rows of spec/opcode_table.json give no
bits, so `decodeTableWord` answers none. -/

namespace Sys2Proof

/-- One byte of a number (R174). -/
def u8 (n : Nat) : List Byte := [BitVec.ofNat 8 n]

/-- A two-byte number, high byte first (R174). -/
def u16 (n : Nat) : List Byte := [BitVec.ofNat 8 (n / 256), BitVec.ofNat 8 n]

/-- A four-byte number, high byte first (R174). -/
def u32 (n : Nat) : List Byte :=
  [BitVec.ofNat 8 (n / 16777216), BitVec.ofNat 8 (n / 65536), BitVec.ofNat 8 (n / 256), BitVec.ofNat 8 n]

/-- A signed number in two bytes of two's complement, high byte first (R174). -/
def s16 (i : Int) : List Byte := u16 (i % 65536).toNat

/-- The number two bytes carry, high byte first (R174). -/
def nat16 (hi lo : Byte) : Nat := hi.toNat * 256 + lo.toNat

/-- The number four bytes carry, high byte first (R174). -/
def nat32 (b3 b2 b1 b0 : Byte) : Nat := nat16 b3 b2 * 65536 + nat16 b1 b0

/-- The index a byte carries, when it lies below `n`. -/
def finOf (n : Nat) (b : Byte) : Option (Fin n) := if h : b.toNat < n then some ⟨b.toNat, h⟩ else none

/-- One bit step of the CRC register: division by the generator 1021h (R174). -/
def crcBit (reg : BitVec 16) : BitVec 16 := if reg.msb then (reg <<< 1) ^^^ 0x1021#16 else reg <<< 1

/-- A covered byte fed into the register, most significant bit first (R174; log entry 8). -/
def crcByte (reg : BitVec 16) (b : Byte) : BitVec 16 := Nat.repeat crcBit 8 (reg ^^^ (b ++ 0#8))

/-- The CRC of the covered bytes: the register starts at FFFFh and its final value is not inverted (R174). -/
def crc16 (covered : List Byte) : BitVec 16 := covered.foldl crcByte 0xFFFF#16

/-- The check of the sensor frames: the bytes from offset 1 through the check byte sum to 0 modulo 256 (R175). -/
def sumsToZero (bytes : List Byte) : Bool := bytes.foldl (· + ·) 0#8 == 0#8

/-- Request codes: 01h upward in the order of the rights table (R174). -/
def Request.code : Request → Byte
  | .load => 0x01#8 | .start => 0x02#8 | .hold => 0x03#8 | .resume => 0x04#8 | .step => 0x05#8 | .skipPhase => 0x06#8
  | .abort => 0x07#8 | .release => 0x08#8 | .check => 0x09#8 | .probeEnable => 0x0A#8 | .chamberSet => 0x0B#8
  | .draw => 0x0C#8 | .endDraw => 0x0D#8 | .closePack => 0x0E#8
  | .newCharge => 0x0F#8 | .deleteCharge => 0x10#8 | .write => 0x11#8 | .commitSchedule => 0x12#8
  | .clearSchedule => 0x13#8 | .packPlan => 0x14#8 | .nextLabel => 0x15#8 | .ackLabel => 0x16#8 | .reprint => 0x17#8
  | .setTime => 0x18#8
  | .setCursor => 0x19#8 | .read => 0x1A#8 | .readNotices => 0x1B#8 | .setNoticeMask => 0x1C#8 | .status => 0x1D#8
  | .mark => 0x1E#8

/-- Every request, in code order. -/
def allRequests : List Request :=
  [.load, .start, .hold, .resume, .step, .skipPhase, .abort, .release, .check, .probeEnable, .chamberSet,
   .draw, .endDraw, .closePack, .newCharge, .deleteCharge, .write, .commitSchedule, .clearSchedule, .packPlan,
   .nextLabel, .ackLabel, .reprint, .setTime, .setCursor, .read, .readNotices, .setNoticeMask, .status, .mark]

/-- The request a code names; none for code 00h and codes above 1Eh (R174). -/
def requestOfCode (code : Byte) : Option Request := allRequests.find? (fun r => r.code == code)

/-- The rights of R153. For WRITE this is the port's part of the right; the cursor's table is the other part. -/
def Request.permitted : Request → Port → Bool
  | .load, p | .start, p | .hold, p | .resume, p | .step, p | .skipPhase, p | .abort, p | .release, p | .check, p
  | .probeEnable, p | .chamberSet, p => p == .kiln
  | .draw, p | .endDraw, p => p == .line
  | .closePack, p => p == .line || p == .yard
  | .newCharge, p | .deleteCharge, p | .write, p | .commitSchedule, p | .clearSchedule, p | .packPlan, p
  | .nextLabel, p | .ackLabel, p | .reprint, p | .setTime, p => p == .yard
  | .setCursor, _ | .read, _ | .readNotices, _ | .setNoticeMask, _ | .status, _ | .mark, _ => true

/-- The command of a valid frame of a request. A WRITE frame is read as `writeStaging`; its meaning looks at the cursor. -/
def requestCommand (p : Port) (tag : Byte) (ps : List Byte) : Request → Instr
  | .load => .load p tag ps | .start => .start p tag ps | .hold => .hold p tag ps | .resume => .resume p tag ps
  | .step => .step p tag ps | .skipPhase => .skipPhase p tag ps | .abort => .abort p tag ps
  | .release => .release p tag ps | .check => .check p tag ps | .probeEnable => .probeEnable p tag ps
  | .chamberSet => .chamberSet p tag ps | .draw => .draw p tag ps | .endDraw => .endDraw p tag ps
  | .closePack => .closePack p tag ps | .newCharge => .newCharge p tag ps | .deleteCharge => .deleteCharge p tag ps
  | .write => .writeStaging p tag ps | .commitSchedule => .commitSchedule p tag ps
  | .clearSchedule => .clearSchedule p tag ps | .packPlan => .packPlan p tag ps | .nextLabel => .nextLabel p tag ps
  | .ackLabel => .ackLabel p tag ps | .reprint => .reprint p tag ps | .setTime => .setTime p tag ps
  | .setCursor => .setCursor p tag ps | .read => .read p tag ps | .readNotices => .readNotices p tag ps
  | .setNoticeMask => .setNoticeMask p tag ps | .status => .status p tag ps | .mark => .mark p tag ps

/-- What the controller of port `p` reads from the bytes that follow a start byte: a bad length byte (R149), a frame whose
CRC fails (R150), an unknown request or a request (R151). None when the bytes are not one whole frame. -/
def decodePortFrame (p : Port) : List Byte → Option Instr
  | [] => none
  | len :: rest =>
    if !lengthByteGood len then some (.portFrameBadLength p len)
    else
      let body := rest.take len.toNat
      match rest.drop len.toNat, body with
      | [hi, lo], code :: tag :: ps =>
        if crc16 (len :: body) == hi ++ lo then
          match requestOfCode code with
          | none => some (.unknownRequest p code tag)
          | some r => some (requestCommand p tag ps r)
        else some (.requestFrameCrcFail p)
      | _, _ => none

/-- The port, code, tag and parameters of a command that is a valid request frame. -/
def Instr.framed : Instr → Option (Port × Byte × Byte × List Byte)
  | .load p t ps => some (p, Request.load.code, t, ps)
  | .start p t ps => some (p, Request.start.code, t, ps)
  | .hold p t ps => some (p, Request.hold.code, t, ps)
  | .resume p t ps => some (p, Request.resume.code, t, ps)
  | .step p t ps => some (p, Request.step.code, t, ps)
  | .skipPhase p t ps => some (p, Request.skipPhase.code, t, ps)
  | .abort p t ps => some (p, Request.abort.code, t, ps)
  | .release p t ps => some (p, Request.release.code, t, ps)
  | .check p t ps => some (p, Request.check.code, t, ps)
  | .probeEnable p t ps => some (p, Request.probeEnable.code, t, ps)
  | .chamberSet p t ps => some (p, Request.chamberSet.code, t, ps)
  | .draw p t ps => some (p, Request.draw.code, t, ps)
  | .endDraw p t ps => some (p, Request.endDraw.code, t, ps)
  | .closePack p t ps => some (p, Request.closePack.code, t, ps)
  | .newCharge p t ps => some (p, Request.newCharge.code, t, ps)
  | .deleteCharge p t ps => some (p, Request.deleteCharge.code, t, ps)
  | .writeStaging p t ps => some (p, Request.write.code, t, ps)
  | .writeSpecies p t ps => some (p, Request.write.code, t, ps)
  | .commitSchedule p t ps => some (p, Request.commitSchedule.code, t, ps)
  | .clearSchedule p t ps => some (p, Request.clearSchedule.code, t, ps)
  | .packPlan p t ps => some (p, Request.packPlan.code, t, ps)
  | .nextLabel p t ps => some (p, Request.nextLabel.code, t, ps)
  | .ackLabel p t ps => some (p, Request.ackLabel.code, t, ps)
  | .reprint p t ps => some (p, Request.reprint.code, t, ps)
  | .setTime p t ps => some (p, Request.setTime.code, t, ps)
  | .setCursor p t ps => some (p, Request.setCursor.code, t, ps)
  | .read p t ps => some (p, Request.read.code, t, ps)
  | .readNotices p t ps => some (p, Request.readNotices.code, t, ps)
  | .setNoticeMask p t ps => some (p, Request.setNoticeMask.code, t, ps)
  | .status p t ps => some (p, Request.status.code, t, ps)
  | .mark p t ps => some (p, Request.mark.code, t, ps)
  | .unknownRequest p code t => some (p, code, t, [])
  | .requestFrameCrcFail _ | .portFrameBadLength _ _ | .portFrameWindowExpiry _ | .responseSent _ | .probeFrame ..
  | .probeFrameWindowExpiry | .boardFrame .. | .boardFrameWindowExpiry | .tallyMove | .drawEnd | .lineSilenceExpiry
  | .evaluationInstant _ | .doorInputChange _ _ | .doorDebounceExpiry _ | .doorLimitPassed _ | .millTimeWrap
  | .vbatRangeChange _ | .mainPowerLoss | .powerReturn .. | .clearedStart .. | .portReset | .clearReset
  | .portStartByte _ | .probeStartByte | .boardStartByte => none

/-- The two bytes of a CRC, high byte first (R174). -/
def crcField (c : BitVec 16) : List Byte := [c.extractLsb' 8 8, c.extractLsb' 0 8]

/-- The bytes after the start byte of a request frame with this code, tag and parameters (R174). -/
def requestFrame (code tag : Byte) (ps : List Byte) : List Byte :=
  let covered := BitVec.ofNat 8 (ps.length + 2) :: code :: tag :: ps
  covered ++ crcField (crc16 covered)

/-- The port and the bytes after the start byte of the frame that a request command stands for (R174). -/
def encodePortFrame (i : Instr) : Option (Port × List Byte) :=
  i.framed.map fun (p, code, tag, ps) => (p, requestFrame code tag ps)

/-- The rows of spec/opcode_table.json give no bits, so no word spells a command. -/
def decodeTableWord (_nbits _w : Nat) : Option Instr := none

end Sys2Proof
end

