-- ==== Sys2Proof/Config.lean ====
section
/-! DEFINITION. The fixed figures of the part (introduction, "Numbers used throughout"), and the free values: what the
manual leaves open, as constants with no body. -/

namespace Sys2Proof.Config

/-- The greatest value of mill time seconds and of a four-byte count (R164, R5). -/
abbrev maxCount : Nat := 4294967295

/-- The greatest value of the counts that stop at 65535 (R4, R36, R58, R137). -/
abbrev maxShort : Nat := 65535

/-- The port frame window of 250 ms in sixty-fourths of a second (R149, R167): 16 of them are 250 ms exactly. -/
abbrev portWindow : Nat := 16

/-- The probe and board frame windows of 50 ms in sixty-fourths (R34, R103, R167): the first at which 50 ms have passed. -/
abbrev linkWindow : Nat := 4

/-- The blind limit of R76. -/
abbrev blindLimit : Nat := 6

/-- Board FIFO size (R112). -/
abbrev fifoSize : Nat := 32

/-- Event ring size (R95). -/
abbrev ringSize : Nat := 8

/-- Command queue size (R70). -/
abbrev queueSize : Nat := 4

/-- Free value (log entry 3): how a READ or STATUS result carries the level, high or low, of an output.
R174 lists no kind for a level. -/
opaque levelField (high : Bool) : List Byte

/-- Free value (log entry 3): how a READ or STATUS result carries the ring overflow flag, CLOCK_LOST and the backup-valid flag.
No table lists their values and R174 lists no kind for a flag. -/
opaque flagField (set : Bool) : List Byte

/-- Free value (log entry 4): how a READ of CHAMBERS carries the commands of a queue, oldest first (R60), given their
one-byte codes. R174 lists no kind for a list of varying length. -/
opaque commandQueueField (codes : List Byte) : List Byte

/-- Free value (log entry 5): the mark EMPTY that a READ of STEPS returns (R20). R174 gives no bytes for it. -/
opaque emptyStepField : List Byte

/-- Free value (log entry 7): what a charge's board count holds after an increase that would take it past 4,294,967,295,
given the exact sum. R5 gives the range and no rule for passing it. -/
opaque countPastMax (exact : Nat) : Nat

end Sys2Proof.Config
end

