-- ==== Sys2Proof/Machine/State.lean ====
section
/-! DEFINITION. The state of the part: every record, queue, counter, flag, setting and pin the manual gives it, as plain
data, and the queue of waiting commands. Temperatures and MC are carried in tenths, as the introduction sets out. -/

namespace Sys2Proof.Machine

/-! ### Clock and power (chapter 10) -/

/-- A stamp of mill time (R164). -/
structure Stamp where
  seconds : Nat
  sixtyFourths : Nat
  deriving DecidableEq, Repr

/-- The mill clock (R164): mill time and the CLOCK_LOST flag. -/
structure MillClock where
  /-- 0..4,294,967,295 -/
  seconds : Nat
  /-- 0..63 -/
  sixtyFourths : Nat
  lost : Bool
  deriving DecidableEq, Repr

/-- Main power, VBAT and what the backup keeps about them (R168). -/
structure Power where
  /-- main power is on -/
  main : Bool
  /-- VBAT lies within the range that holds the backup domain -/
  vbatInRange : Bool
  backupValid : Bool
  holdMarker : Bool
  deriving DecidableEq, Repr

/-- The BAUD_SEL strap (introduction, Signals). -/
inductive Baud where
  | b19200 | b57600
  deriving DecidableEq, Repr

/-! ### Ports (chapter 9) -/

/-- The notices of R159, in its order. -/
inductive Notice where
  | step | done | door | probe | ring | held | draw | label | idle | block | seq | clock
  deriving DecidableEq, Repr

/-- A set of notices: bit i is the i-th notice of R159 (R174). -/
abbrev NoticeSet := BitVec 12

/-- The statuses of R152, in its order. -/
inductive Status where
  | ok | queued | limited | none | full | notPermitted | wrongState | queueFull | tableFull | noCharge | noPack | inUse
  | invalid | notOldest | notIssued | drawActive | doorOpen | outOfRange | unknown
  deriving DecidableEq, Repr

/-- A response (R152): the echoed code and tag, the status and the result bytes. -/
structure Response where
  code : Byte
  tag : Byte
  status : Status
  results : List Byte
  deriving DecidableEq, Repr

/-- The receive state of a port controller (R149): in FRAME with the sixty-fourths since the start byte, in RESPOND with the
response being sent. -/
inductive PortRx where
  | hunt
  | frame (elapsed : Nat)
  | respond (r : Response)
  deriving DecidableEq, Repr

/-- The tables of R157, in the order of their codes (R174). -/
inductive Table where
  | chambers | charges | probes | ring (c : ChamberNo) | schedules | steps | staging | species | packs | draw | clock
  deriving DecidableEq, Repr

/-- A port's cursor (R154). -/
structure Cursor where
  table : Table
  index : Nat
  advance : Bool
  readMark : Bool
  deriving DecidableEq, Repr

/-- A port controller (R149, R154, R159, R160). -/
structure PortState where
  rx : PortRx
  cursor : Cursor
  pending : NoticeSet
  mask : NoticeSet
  deriving DecidableEq, Repr

/-- The three port controllers. -/
structure Ports where
  kiln : PortState
  line : PortState
  yard : PortState
  deriving DecidableEq, Repr

/-- The receive state of a sensor link (R34, R103): in FRAME with the sixty-fourths since the start byte. -/
inductive LinkRx where
  | hunt
  | frame (elapsed : Nat)
  deriving DecidableEq, Repr

/-! ### Statistics and probes (chapter 3) -/

/-- The values of valid statistics (R49), in tenths. -/
structure StatValues where
  wettestHalf : Nat
  mean : Nat
  driest : Nat
  wettest : Nat
  spread : Nat
  deriving DecidableEq, Repr

/-- A statistics record (R4, R48): the count of valid probes and, when valid, the values; `none` is INVALID. -/
structure Stats where
  n : Nat
  values : Option StatValues
  deriving DecidableEq, Repr

/-- The cause of a sample slot's FAULT (R41). -/
inductive FaultCause where
  | short | opened
  deriving DecidableEq, Repr

/-- The state of a sample slot (R37) with the values that state has: the accepted MC in GOOD, SUSPECT and STALE and, if it
had one, in FAULT; the pending MC in SUSPECT; the cause in FAULT. OFF is the state of a slot that is not enabled. -/
inductive SlotTrust where
  | off
  | new
  | good (accepted : Nat)
  | suspect (accepted pending : Nat)
  | fault (cause : FaultCause) (accepted : Option Nat)
  | stale (accepted : Nat)
  deriving DecidableEq, Repr

/-- The flags of a slot's latest conversion (R36). -/
structure ConvFlags where
  wetLimit : Bool
  dryLimit : Bool
  noTemp : Bool
  deriving DecidableEq, Repr

/-- A reading age (R36): whole seconds since the latest reading, and the sixty-fourths counted toward the next. -/
structure Age where
  seconds : Nat
  frac : Nat
  deriving DecidableEq, Repr

/-- A sample slot (R36). -/
structure SampleSlot where
  trust : SlotTrust
  /-- 0..4095 -/
  lastCode : Option Nat
  stamp : Option Stamp
  age : Age
  /-- check offset, −50..+50 tenths -/
  offset : Int
  flags : ConvFlags
  deriving DecidableEq, Repr

/-- The state of a dry-bulb slot with its temperature field (R38). -/
inductive DryBulbTrust where
  | new
  | good (temperature : Nat)
  | fault (temperature : Option Nat)
  | stale (temperature : Nat)
  deriving DecidableEq, Repr

/-- A dry-bulb slot (R38). -/
structure DryBulb where
  trust : DryBulbTrust
  lastCode : Option Nat
  stamp : Option Stamp
  age : Age
  deriving DecidableEq, Repr

/-- The seventeen probe records of a chamber and its statistics record in the Moisture unit (R36, R38, R50). -/
structure ProbeBank where
  samples : Vector SampleSlot 16
  dryBulb : DryBulb
  stats : Stats
  deriving DecidableEq, Repr

/-! ### Schedules and species (chapter 2) -/

/-- The phases of a step (R22), in order. -/
inductive Phase where
  | dry | equalize | condition
  deriving DecidableEq, Repr

/-- The test bases of a step (R22). -/
inductive Basis where
  | wettestHalf | mean | driest
  deriving DecidableEq, Repr

/-- A schedule step (R22). -/
structure Step where
  phase : Phase
  basis : Basis
  changeAt : Nat
  dryBulb : Nat
  depression : Nat
  /-- minutes -/
  minDwell : Nat
  /-- tenths of a degree per hour -/
  ramp : Nat
  deriving DecidableEq, Repr

/-- A VALID schedule record (R20, R21); its step count is the number of its steps. -/
structure Schedule where
  targetMc : Nat
  wetMargin : Nat
  coolTemp : Nat
  /-- minutes -/
  coolTime : Nat
  steps : List Step
  deriving DecidableEq, Repr

/-- The staging header (R23): each field holds any value its encoding can carry. -/
structure StagingHeader where
  stepCount : BitVec 8
  targetMc : BitVec 16
  wetMargin : BitVec 16
  coolTemp : BitVec 16
  coolTime : BitVec 16
  deriving DecidableEq, Repr

/-- A step slot of the staging record (R23): phase and basis are codes, which may name nothing. -/
structure StagingStep where
  phase : BitVec 8
  basis : BitVec 8
  changeAt : BitVec 16
  dryBulb : BitVec 16
  depression : BitVec 16
  minDwell : BitVec 16
  ramp : BitVec 16
  deriving DecidableEq, Repr

/-- The staging record (R23). -/
structure Staging where
  header : StagingHeader
  steps : Vector StagingStep 12
  deriving DecidableEq, Repr

/-- A breakpoint of a species curve (R28). -/
structure Breakpoint where
  code : Nat
  mc : Nat
  deriving DecidableEq, Repr

/-- A VALID species record (R28). -/
structure Species where
  points : Vector Breakpoint 6
  coeff : Nat
  deriving DecidableEq, Repr

/-! ### Charges (chapter 1) -/

/-- The states of a charge record (R7); FREE is a slot that holds none. -/
inductive ChargeState where
  | assigned | loaded | inKiln | dried | released | onLine | planed
  deriving DecidableEq, Repr

/-- The marks of R6, in its order. -/
inductive Mark where
  | aborted | entryBlind | lowProbes | manualStep | powerHold | doorLong | countOver | countShort
  deriving DecidableEq, Repr

/-- A set of marks: bit i is the i-th mark of R6 (R174). -/
abbrev MarkSet := BitVec 8

/-- A charge record (R3 to R7). -/
structure Charge where
  id : Nat
  species : Fin 8
  schedule : Fin 16
  targetMc : Nat
  wetMargin : Nat
  declared : Nat
  parent : Option Nat
  state : ChargeState
  chamber : Option ChamberNo
  startTime : Option Nat
  endTime : Option Nat
  lastStats : Option Stats
  finalStats : Option Stats
  doorOpenings : Nat
  doorSeconds : Nat
  graded : Nat
  wet : Nat
  rejected : Nat
  unseen : Nat
  remaining : Option Nat
  overrun : Nat
  packed : Nat
  unmeasured : Nat
  firstPack : Option Nat
  lastPack : Option Nat
  packsClosed : Nat
  marks : MarkSet
  deriving DecidableEq, Repr

/-! ### Chambers (chapter 4) -/

/-- The states of a chamber (R61). -/
inductive ChamberState where
  | empty | loaded | running | held | doorHold | cooling | complete
  deriving DecidableEq, Repr

/-- The return state of a door hold (R58). -/
inductive ReturnState where
  | running | held
  deriving DecidableEq, Repr

/-- The run commands (R70), in the order of their codes (R174). -/
inductive RunCommand where
  | hold | resume | step | skipPhase
  deriving DecidableEq, Repr

/-- A chamber countdown (R58, R63): whole seconds left, the sixty-fourths counted toward the next second, the loaded interval. -/
structure Countdown where
  seconds : Nat
  frac : Nat
  loaded : Nat
  deriving DecidableEq, Repr

/-- The debounce settings of R59: 0, 1/4 s, 1 s, 4 s. -/
inductive DebounceSetting where
  | zero | quarter | one | four
  deriving DecidableEq, Repr

/-- Ring modes (R59). -/
inductive RingMode where
  | overwrite | stop
  deriving DecidableEq, Repr

/-- Ring notice policies (R59). -/
inductive RingPolicy where
  | each | full
  deriving DecidableEq, Repr

/-- A set of the event groups DOOR, RUN, PROBE, CHECK, POWER: bit i is the i-th of them (R59, R174). -/
abbrev GroupSet := BitVec 5

/-- The settings of a chamber (R59). -/
structure Settings where
  interval : Nat
  minProbes : Nat
  jump : Nat
  /-- minutes -/
  doorLimit : Nat
  debounce : DebounceSetting
  ringMode : RingMode
  ringEnables : GroupSet
  ringPolicy : RingPolicy
  deriving DecidableEq, Repr

/-- A chamber record (R58). -/
structure Chamber where
  state : ChamberState
  returnState : Option ReturnState
  chargeSlot : Option (Fin 8)
  stepIndex : Option Nat
  dwell : Nat
  drySetpoint : Nat
  rampAcc : Nat
  wetSetpoint : Nat
  latest : Stats
  invalidCount : Nat
  queue : List RunCommand
  countdown : Option Countdown
  settings : Settings
  deriving DecidableEq, Repr

/-! ### Doors and rings (chapter 5) -/

/-- A pending debounce (R88), in sixty-fourths. -/
structure Debounce where
  elapsed : Nat
  period : Nat
  deriving DecidableEq, Repr

/-- A door hold in progress (R88): open time in sixty-fourths, and whether it has raised the DOOR notice. -/
structure DoorHold where
  openTime : Nat
  limitNotice : Bool
  deriving DecidableEq, Repr

/-- A door monitor (R88). -/
structure DoorMonitor where
  input : DoorLevel
  door : DoorLevel
  debounce : Option Debounce
  hold : Option DoorHold
  deriving DecidableEq, Repr

/-- Outcome of a DOOR_CLOSE event (R96). -/
inductive CloseOutcome where
  | returned | long | stamp
  deriving DecidableEq, Repr

/-- Causes of an entry to COOLING (R83). -/
inductive CoolingCause where
  | lastStep | step | skipPhase | abort
  deriving DecidableEq, Repr

/-- Details of an AUTO_HOLD event (R96). -/
inductive AutoHoldReason where
  | lowProbes | doorLong
  deriving DecidableEq, Repr

/-- The event kinds of R96, each with its detail. -/
inductive Event where
  | doorOpen (hold : Bool)
  | doorClose (seconds : Nat) (outcome : CloseOutcome)
  | start (origin : Port)
  | command (cmd : RunCommand) (applied : Bool)
  | step (old : Nat)
  | cooling (cause : CoolingCause)
  | complete
  | autoHold (reason : AutoHoldReason)
  | probeFault (slot : Nat) (cause : Option FaultCause)
  | check (slot : Nat) (offset : Int)
  | mark (tag : Nat) (origin : Port)
  | powerReturn (atLoss : ChamberState)
  deriving DecidableEq, Repr

/-- A ring entry (R95). -/
structure RingEntry where
  seq : Nat
  time : Stamp
  timeUnsure : Bool
  event : Event
  chamberState : ChamberState
  stepIndex : Option Nat
  /-- wettest-half mean, `none` for INVALID -/
  wettestHalf : Option Nat
  dryBulb : Option Nat
  deriving DecidableEq, Repr

/-- An event ring (R95), the oldest entry first. -/
structure EventRing where
  entries : List RingEntry
  counter : Nat
  overflow : Bool
  deriving DecidableEq, Repr

/-! ### Board link, draw and tally (chapters 6 and 7) -/

/-- Dispositions (R104). -/
inductive Disposition where
  | pack | wet | reject
  deriving DecidableEq, Repr

/-- Causes of a disposition (R104). -/
inductive DispositionCause where
  | none | short | full | noCharge
  deriving DecidableEq, Repr

/-- The content of a disposition frame (R104). -/
structure Reply where
  sequence : Byte
  disposition : Disposition
  cause : DispositionCause
  deriving DecidableEq, Repr

/-- A draw that is ACTIVE or ENDING (R117); the state NONE holds none of it. -/
structure Draw where
  ending : Bool
  slot : Fin 8
  autoEnd : Bool
  deriving DecidableEq, Repr

/-- The pack plan (R122). -/
structure PackPlan where
  thickness : Nat
  width : Nat
  target : Nat
  minLength : Nat
  nominalLength : Nat
  closeOnIdle : Bool
  silence : Nat
  deriving DecidableEq, Repr

/-- A board record of the Board FIFO (R112); `none` is MC NONE. -/
structure BoardRecord where
  slot : Fin 8
  mc : Option Nat
  length : Nat
  deriving DecidableEq, Repr

/-- The line-silence countdown (R124, R133): whole seconds left, the sixty-fourths counted toward the next second, and the
loaded values. -/
structure Silence where
  seconds : Nat
  frac : Nat
  loaded : Nat
  closeOnIdle : Bool
  deriving DecidableEq, Repr

/-- States of a pack (R125); FREE is a slot that holds none. -/
inductive PackState where
  | opened | closed | issued
  deriving DecidableEq, Repr

/-- Causes of a pack close (R131). -/
inductive CloseCause where
  | target | closePack | idle | drawEnd
  deriving DecidableEq, Repr

/-- Grade classes (R141). -/
inductive Grade where
  | a | b | c
  deriving DecidableEq, Repr

/-- The draw outcome of a label (R140). -/
structure DrawOutcome where
  unseen : Nat
  shortfall : Nat
  overrun : Nat
  deriving DecidableEq, Repr

/-- What the close of a pack writes into it (R131, R137): the close cause and time, and the label fields that are not already
the pack's own. -/
structure Label where
  closeCause : CloseCause
  closeTime : Stamp
  volume : Nat
  meanMc : Option Nat
  targetMc : Nat
  /-- `none` is INVALID -/
  finalWettestHalf : Option Nat
  finalCount : Nat
  kilnStart : Nat
  kilnEnd : Nat
  doorOpenings : Nat
  doorMinutes : Nat
  marks : MarkSet
  outcome : Option DrawOutcome
  grade : Grade
  timeUnsure : Bool
  deriving DecidableEq, Repr

/-- A pack record (R125); `label` is present from the close. -/
structure Pack where
  state : PackState
  number : Nat
  chargeSlot : Option (Fin 8)
  chargeId : Nat
  parent : Option Nat
  species : Fin 8
  schedule : Fin 16
  thickness : Nat
  width : Nat
  target : Nat
  nominalLength : Nat
  openTime : Stamp
  boards : Nat
  measured : Nat
  unmeasured : Nat
  mcSum : Nat
  maxMc : Option Nat
  totalLength : Nat
  label : Option Label
  deriving DecidableEq, Repr

/-! ### The whole part -/

/-- The state of the part, and the queue of the commands that are waiting. -/
structure State where
  /-- the waiting commands, first in, first out -/
  pending : List Instr
  clock : MillClock
  power : Power
  baud : Baud
  ports : Ports
  probeRx : LinkRx
  boardRx : LinkRx
  chambers : Vector Chamber 4
  probes : Vector ProbeBank 4
  doors : Vector DoorMonitor 4
  rings : Vector EventRing 4
  schedules : Vector (Option Schedule) 16
  staging : Staging
  species : Vector (Option Species) 8
  charges : Vector (Option Charge) 8
  /-- the charge-ID counter (R2) -/
  chargeCounter : Nat
  /-- last sequence (R105) -/
  lastSeq : Option Byte
  /-- last reply (R105) -/
  lastReply : Option Reply
  /-- the disposition frame last started on BOARD_OUT (R104) and not cut short by a reset or a loss of power (R116, R168) -/
  boardOut : Option Reply
  /-- the draw record (R117); none is the state NONE -/
  draw : Option Draw
  plan : PackPlan
  /-- the Board FIFO, the oldest record first (R112) -/
  fifo : List BoardRecord
  /-- the level of LINE_READY (R113), true for high -/
  lineReady : Bool
  /-- the pack-number counter (R124) -/
  packCounter : Nat
  silence : Option Silence
  blocked : Bool
  packs : Vector (Option Pack) 16
  /-- the label queue: the slots of the CLOSED and ISSUED packs, the oldest close first (R143) -/
  labelQueue : List (Fin 16)
  deriving DecidableEq, Repr

/-! ### Stops -/

/-- Why a command stops with a fault. -/
inductive Fault where
  /-- Raised by a command that must read a charge, schedule, species or label through a link of another record, where the
  link leads to no record. R7, R8, R27, R112, R126 and R139 say no such state arises, so the manual gives it no effect.
  Safe: the model stops where the part has no described behaviour (log entry 9). -/
  | brokenLink
  deriving DecidableEq, Repr

/-- Why a command is refused. -/
inductive Refusal where
  /-- Raised by `exec` alone, for a command that has no meaning yet. Safe. -/
  | notModelled (mnemonic : String)
  /-- Raised by UNKNOWN_REQUEST alone, for a term that is not well formed: its code names a request (R174), so no frame
  that decodes to UNKNOWN_REQUEST carries it. Safe (log entry 10). -/
  | codeNamesRequest
  deriving DecidableEq, Repr

/-! ### Cleared values and reset -/

/-- Default settings (R59). -/
def Settings.default : Settings :=
  ⟨300, 4, 50, 20, .one, .overwrite, 0b11111#5, .full⟩

/-- The chamber record of an EMPTY chamber after a clear reset or a cleared start (R87, R58). -/
def Chamber.cleared (settings : Settings) : Chamber where
  state := .empty
  returnState := none
  chargeSlot := none
  stepIndex := none
  dwell := 0
  drySetpoint := 200
  rampAcc := 0
  wetSetpoint := 0
  latest := ⟨0, none⟩
  invalidCount := 0
  queue := []
  countdown := none
  settings := settings

/-- No flag set. -/
def ConvFlags.clear : ConvFlags := ⟨false, false, false⟩

/-- The cleared sample slot of R57, enabled or not. -/
def SampleSlot.cleared (enabled : Bool) : SampleSlot :=
  ⟨if enabled then .new else .off, none, none, ⟨0, 0⟩, 0, ConvFlags.clear⟩

/-- The cleared dry-bulb slot of R57. -/
def DryBulb.cleared : DryBulb := ⟨.new, none, none, ⟨0, 0⟩⟩

/-- The probe records of a chamber after a cleared start (R57): all sixteen slots enabled and NEW. -/
def ProbeBank.cleared : ProbeBank := ⟨Vector.replicate 16 (SampleSlot.cleared true), DryBulb.cleared, ⟨0, none⟩⟩

/-- The door monitor after a cleared start (R94): the door state set from the input. -/
def DoorMonitor.cleared (level : DoorLevel) : DoorMonitor := ⟨level, level, none, none⟩

/-- The pack plan's defaults (R122). -/
def PackPlan.default : PackPlan := ⟨25, 150, 200, 180, 400, false, 300⟩

/-- A zero step slot of the staging record (R23). -/
def StagingStep.zero : StagingStep := ⟨0, 0, 0, 0, 0, 0, 0⟩

/-- The zero contents of the staging record (R23). -/
def Staging.zero : Staging := ⟨⟨0, 0, 0, 0, 0⟩, Vector.replicate 12 StagingStep.zero⟩

/-- Where every cursor stands after a reset or a start-up (R154). -/
def Cursor.home : Cursor := ⟨.chambers, 0, false, true⟩

/-- A port controller after a cleared start (R163): the mask holds all twelve names. -/
def PortState.cleared : PortState := ⟨.hunt, Cursor.home, 0, BitVec.allOnes 12⟩

/-- The bit of the CLOCK notice, the last of R159. -/
def clockNoticeBit : NoticeSet := 0b100000000000#12

/-- The machine right after a cleared start (R170), with these door inputs, this level of VBAT, this strap and these commands
waiting. CLOCK_LOST is set and the CLOCK notice is pending at the Yard port. -/
def State.cleared (d0 d1 d2 d3 : DoorLevel) (vbat : Bool) (baud : Baud) (pending : List Instr) : State where
  pending := pending
  clock := ⟨0, 0, true⟩
  power := ⟨true, vbat, vbat, true⟩
  baud := baud
  ports := ⟨PortState.cleared, PortState.cleared, { PortState.cleared with pending := clockNoticeBit }⟩
  probeRx := .hunt
  boardRx := .hunt
  chambers := Vector.replicate 4 (Chamber.cleared Settings.default)
  probes := Vector.replicate 4 ProbeBank.cleared
  doors := #v[DoorMonitor.cleared d0, DoorMonitor.cleared d1, DoorMonitor.cleared d2, DoorMonitor.cleared d3]
  rings := Vector.replicate 4 ⟨[], 0, false⟩
  schedules := Vector.replicate 16 none
  staging := Staging.zero
  species := Vector.replicate 8 none
  charges := Vector.replicate 8 none
  chargeCounter := 1
  lastSeq := none
  lastReply := none
  boardOut := none
  draw := none
  plan := PackPlan.default
  fifo := []
  lineReady := true
  packCounter := 1
  silence := none
  blocked := false
  packs := Vector.replicate 16 none
  labelQueue := []

/-- The machine right after reset: main power applied for the first time, which makes a cleared start (R170). The inputs the
start-up samples are DESIGN CHOICES of log entry 1: the four doors CLOSED, VBAT in range, the strap at 19,200 baud. -/
def State.reset : State := State.cleared .closed .closed .closed .closed true .b19200 []

end Sys2Proof.Machine
end

