-- ==== Sys2Proof/Machine/Flags.lean ====
section
/-! DEFINITION. The sets the part keeps as bits (notices, marks, event groups), the ATTN rule, and the levels of the output
pins. -/

namespace Sys2Proof.Machine

/-- The place of a notice in the table of R159, which is its bit in a notice set (R174). -/
def Notice.index : Notice → Nat
  | .step => 0 | .done => 1 | .door => 2 | .probe => 3 | .ring => 4 | .held => 5
  | .draw => 6 | .label => 7 | .idle => 8 | .block => 9 | .seq => 10 | .clock => 11

/-- The set that holds one notice. -/
def Notice.bit (n : Notice) : NoticeSet := 1#12 <<< n.index

/-- The ports a notice is raised to (R159). -/
def Notice.raisedTo : Notice → Port → Bool
  | .step, p | .done, p | .held, p => p == .kiln || p == .yard
  | .door, p | .probe, p | .ring, p => p == .kiln
  | .draw, p | .block, p => p == .line || p == .yard
  | .label, p | .clock, p => p == .yard
  | .idle, p | .seq, p => p == .line

/-- Every notice, in the order of R159. -/
def allNotices : List Notice :=
  [.step, .done, .door, .probe, .ring, .held, .draw, .label, .idle, .block, .seq, .clock]

/-- The notices that are raised to a port, as a set (R159). -/
def noticesOf (p : Port) : NoticeSet :=
  allNotices.foldl (fun acc n => if n.raisedTo p then acc ||| n.bit else acc) 0

/-- A raising at one port controller: the name joins the pending set if the port is among those named (R159). -/
def PortState.note (n : Notice) (p : Port) (x : PortState) : PortState :=
  if n.raisedTo p then { x with pending := x.pending ||| n.bit } else x

/-- A raising at the three port controllers (R159). -/
def Ports.raise (n : Notice) (x : Ports) : Ports :=
  ⟨x.kiln.note n .kiln, x.line.note n .line, x.yard.note n .yard⟩

/-- ATTN of a port controller: its pending set and its mask have a name in common (R161). -/
def PortState.attn (x : PortState) : Bool := x.pending &&& x.mask != 0#12

/-- The place of a mark in the table of R6, which is its bit in a mark set (R174). -/
def Mark.index : Mark → Nat
  | .aborted => 0 | .entryBlind => 1 | .lowProbes => 2 | .manualStep => 3
  | .powerHold => 4 | .doorLong => 5 | .countOver => 6 | .countShort => 7

/-- The set that holds one mark. -/
def Mark.bit (m : Mark) : MarkSet := 1#8 <<< m.index

/-- A mark joins a set; joining a set that holds it changes nothing (R6). -/
def Mark.join (m : Mark) (marks : MarkSet) : MarkSet := marks ||| m.bit

/-- Whether a set holds a mark. -/
def Mark.among (m : Mark) (marks : MarkSet) : Bool := marks &&& m.bit != 0#8

/-- A mark joins the marks of a charge (R6). -/
def Charge.mark (m : Mark) (ch : Charge) : Charge := { ch with marks := m.join ch.marks }

/-- The place of an event's group among DOOR, RUN, PROBE, CHECK, POWER (R96, R59). -/
def Event.group : Event → Nat
  | .doorOpen _ | .doorClose .. => 0
  | .start _ | .command .. | .step _ | .cooling _ | .complete | .autoHold _ => 1
  | .probeFault .. => 2
  | .check .. | .mark .. => 3
  | .powerReturn _ => 4

/-- Whether the settings enable an event's group (R97). -/
def Settings.enables (st : Settings) (ev : Event) : Bool := st.ringEnables.getLsbD ev.group

/-- HEAT_PERMIT is high while the chamber is RUNNING or HELD (R62). -/
def ChamberState.heat : ChamberState → Bool
  | .running | .held => true
  | .empty | .loaded | .doorHold | .cooling | .complete => false

/-- The chamber is in a run: RUNNING, HELD or DOOR_HOLD (R61, R70). -/
def ChamberState.inRun : ChamberState → Bool
  | .running | .held | .doorHold => true
  | .empty | .loaded | .cooling | .complete => false

/-- The chamber's countdown runs: RUNNING, HELD, DOOR_HOLD and COOLING (R61). -/
def ChamberState.counts : ChamberState → Bool
  | .running | .held | .doorHold | .cooling => true
  | .empty | .loaded | .complete => false

/-- The states of a charge that hold its schedule and species in use (R27). -/
def ChargeState.holdsRecords : ChargeState → Bool
  | .assigned | .loaded | .inKiln => true
  | .dried | .released | .onLine | .planed => false

/-- The level of a HEAT_PERMIT output; not driven, and read as low, while main power is off (R62, R168). -/
def State.heatPermitPin (s : State) (c : ChamberNo) : Bool := s.power.main && s.chambers[c].state.heat

/-- The level of LINE_READY; not driven, and read as low, while main power is off (R113, R168). -/
def State.lineReadyPin (s : State) : Bool := s.power.main && s.lineReady

/-- The ATTN outputs; not driven, and read as low, while main power is off (R161, R168). -/
def State.attnPin (s : State) : Port → Bool
  | .kiln => s.power.main && s.ports.kiln.attn
  | .line => s.power.main && s.ports.line.attn
  | .yard => s.power.main && s.ports.yard.attn

end Sys2Proof.Machine
end

