-- ==== Sys2Proof/Machine/Ops.lean ====
section
/-! DEFINITION. The operations every block shares: reading and replacing a record, raising a notice, offering an event to a
ring, finding a charge or a pack by its number, passing a request to the block that owns it and answering it. -/

namespace Sys2Proof.Machine

/-! ### Enumerations -/

/-- The chambers, 0 to 3. -/
def allChambers : List ChamberNo := [0, 1, 2, 3]
/-- The charge slots, lowest first. -/
def allChargeSlots : List (Fin 8) := [0, 1, 2, 3, 4, 5, 6, 7]
/-- The pack slots, lowest first. -/
def allPackSlots : List (Fin 16) := [0, 1, 2, 3, 4, 5, 6, 7, 8, 9, 10, 11, 12, 13, 14, 15]

/-! ### Records -/

/-- The mill time as it stands (R164). -/
def State.stamp (s : State) : Stamp := ⟨s.clock.seconds, s.clock.sixtyFourths⟩

def State.chamber (s : State) (c : ChamberNo) : Chamber := s.chambers[c]
def State.setChamber (c : ChamberNo) (x : Chamber) (s : State) : State := { s with chambers := s.chambers.set c x }
def State.modChamber (c : ChamberNo) (f : Chamber → Chamber) (s : State) : State := s.setChamber c (f (s.chamber c))

def State.bank (s : State) (c : ChamberNo) : ProbeBank := s.probes[c]
def State.setBank (c : ChamberNo) (x : ProbeBank) (s : State) : State := { s with probes := s.probes.set c x }

def State.monitor (s : State) (c : ChamberNo) : DoorMonitor := s.doors[c]
def State.setMonitor (c : ChamberNo) (x : DoorMonitor) (s : State) : State := { s with doors := s.doors.set c x }

def State.eventRing (s : State) (c : ChamberNo) : EventRing := s.rings[c]
def State.setRing (c : ChamberNo) (x : EventRing) (s : State) : State := { s with rings := s.rings.set c x }

def State.charge (s : State) (k : Fin 8) : Option Charge := s.charges[k]
def State.setCharge (k : Fin 8) (x : Option Charge) (s : State) : State := { s with charges := s.charges.set k x }
/-- A change of the record in a charge slot; a FREE slot stays FREE. -/
def State.modCharge (k : Fin 8) (f : Charge → Charge) (s : State) : State := s.setCharge k ((s.charge k).map f)

/-- A change of the charge bound to a chamber (R8); with none bound nothing changes. -/
def State.modBound (c : ChamberNo) (f : Charge → Charge) (s : State) : State :=
  { s with charges :=
      match (s.chamber c).chargeSlot with
      | some k => s.charges.set k ((s.charge k).map f)
      | none => s.charges }

def State.pack (s : State) (k : Fin 16) : Option Pack := s.packs[k]
def State.setPack (k : Fin 16) (x : Option Pack) (s : State) : State := { s with packs := s.packs.set k x }

def Ports.get (x : Ports) : Port → PortState
  | .kiln => x.kiln
  | .line => x.line
  | .yard => x.yard
def Ports.set (x : Ports) (p : Port) (y : PortState) : Ports :=
  match p with
  | .kiln => { x with kiln := y }
  | .line => { x with line := y }
  | .yard => { x with yard := y }
def State.port (s : State) (p : Port) : PortState := s.ports.get p
def State.setPort (p : Port) (y : PortState) (s : State) : State := { s with ports := s.ports.set p y }

/-! ### Counting -/

/-- A count that stops at a greatest value (R4, R36, R58). -/
def satAdd (top a b : Nat) : Nat := min (a + b) top

/-- An increase of a charge's board count (R5). Past 4,294,967,295 the manual states no value: it is free (log entry 7). -/
def addCount (a b : Nat) : Nat := if a + b ≤ Config.maxCount then a + b else Config.countPastMax (a + b)

/-- The candidate after an ID or a pack number: one more, and 1 after 65535 (R2, R128). -/
def nextNumber (n : Nat) : Nat := if n < 65535 then n + 1 else 1

/-- The search of R2 and R128: the first candidate, counting from `n`, that is not present. `fuel` bounds the steps. -/
def firstAbsent (present : Nat → Bool) : Nat → Nat → Nat
  | 0, n => n
  | fuel + 1, n => if present n then firstAbsent present fuel (nextNumber n) else n

/-- A whole number clamped to a range (introduction, "Division"). -/
def clampInt (lo hi x : Int) : Int := max lo (min hi x)

/-! ### Notices -/

/-- Raise a notice to the ports R159 names. -/
def State.raise (n : Notice) (s : State) : State := { s with ports := s.ports.raise n }

/-! ### Event rings -/

/-- The temperature field of a dry-bulb slot (R38). -/
def DryBulb.temperature (d : DryBulb) : Option Nat :=
  match d.trust with
  | .new => none
  | .good t | .stale t => some t
  | .fault t => t

/-- What became of an offered event (R97, R101). -/
inductive Recorded where
  | disabled | full | entry (seq : Nat)
  deriving DecidableEq, Repr

/-- What the ring does with an offered event (R97). -/
def EventRing.verdict (st : Settings) (ev : Event) (r : EventRing) : Recorded :=
  if !st.enables ev then .disabled
  else if r.entries.length < Config.ringSize then .entry ((r.counter + 1) % 65536)
  else
    match st.ringMode with
    | .overwrite => .entry ((r.counter + 1) % 65536)
    | .stop => .full

/-- The ring after an offered event (R97): unchanged, or its overflow flag set, or the entry joined as its newest with the
oldest removed when the ring held eight. `mk` makes the entry of a sequence number. -/
def EventRing.after (st : Settings) (ev : Event) (mk : Nat → RingEntry) (r : EventRing) : EventRing :=
  match r.verdict st ev with
  | .disabled => r
  | .full => { r with overflow := true }
  | .entry seq =>
    { r with
      entries := (if r.entries.length < Config.ringSize then r.entries else r.entries.tail) ++ [mk seq]
      counter := seq }

/-- Whether an offered event raises the RING notice (R97, R98). -/
def EventRing.raises (st : Settings) (ev : Event) (r : EventRing) : Bool :=
  match r.verdict st ev with
  | .disabled => false
  | .full => !r.overflow
  | .entry _ =>
    match st.ringPolicy with
    | .each => true
    | .full => r.entries.length + 1 == Config.ringSize

/-- The entry an event makes when it is recorded (R95): the chamber and its dry-bulb slot as they stand. -/
def State.entryOf (s : State) (c : ChamberNo) (ev : Event) (seq : Nat) : RingEntry where
  seq := seq
  time := s.stamp
  timeUnsure := s.clock.lost
  event := ev
  chamberState := (s.chamber c).state
  stepIndex := (s.chamber c).stepIndex
  wettestHalf := (s.chamber c).latest.values.map (·.wettestHalf)
  dryBulb := (s.bank c).dryBulb.temperature

/-- Offer an event to a chamber's ring (R95 to R98). -/
def State.offer (c : ChamberNo) (ev : Event) (s : State) : State :=
  { s with
    rings := s.rings.set c ((s.eventRing c).after (s.chamber c).settings ev (s.entryOf c ev))
    ports := if (s.eventRing c).raises (s.chamber c).settings ev then s.ports.raise .ring else s.ports }

/-! ### Charges -/

/-- The slot of the charge with an ID; ID 0 is no charge's (R2, R11). -/
def State.findCharge (s : State) (id : Nat) : Option (Fin 8) :=
  if id = 0 then none
  else allChargeSlots.find? fun k =>
    match s.charge k with
    | some ch => ch.id == id
    | none => false

/-- The charge with an ID, with its slot. -/
def State.chargeById (s : State) (id : Nat) : Option (Fin 8 × Charge) :=
  match s.findCharge id with
  | some k => (s.charge k).map fun ch => (k, ch)
  | none => none

/-- Whether an ID is present in the charge table (R2). -/
def State.idPresent (s : State) (id : Nat) : Bool :=
  allChargeSlots.any fun k =>
    match s.charge k with
    | some ch => ch.id == id
    | none => false

/-- The charge bound to a chamber, with its slot (R8). -/
def State.bound (s : State) (c : ChamberNo) : Option (Fin 8 × Charge) :=
  match (s.chamber c).chargeSlot with
  | some k => (s.charge k).map fun ch => (k, ch)
  | none => none

/-- The schedule a charge names (R3, R20). -/
def State.scheduleOf (s : State) (ch : Charge) : Option Schedule := s.schedules[ch.schedule]

/-! ### Packs -/

/-- The OPEN pack, with its slot (R126: at most one). -/
def State.openPack (s : State) : Option (Fin 16 × Pack) :=
  allPackSlots.findSome? fun k =>
    match s.pack k with
    | some p => if p.state == .opened then some (k, p) else none
    | none => none

/-- The lowest-numbered FREE pack record (R128). -/
def State.freePack (s : State) : Option (Fin 16) := allPackSlots.find? fun k => (s.pack k).isNone

/-- The pack with a number, with its slot. -/
def State.packByNumber (s : State) (n : Nat) : Option (Fin 16 × Pack) :=
  allPackSlots.findSome? fun k =>
    match s.pack k with
    | some p => if p.number == n then some (k, p) else none
    | none => none

/-- The condition of R130: the FIFO holds a record, no pack is OPEN and no pack record is FREE. -/
def State.tallyStuck (s : State) : Bool := !s.fifo.isEmpty && s.openPack.isNone && s.freePack.isNone

/-- An operation that leaves the condition of R130 with blocked no makes it yes and raises BLOCK. -/
def State.checkBlocked (s : State) : State :=
  if s.tallyStuck && !s.blocked then { s with blocked := true, ports := s.ports.raise .block } else s

/-! ### Requests -/

/-- What the owning block answers: a status and result bytes (R151, R152). -/
structure Answer where
  status : Status
  results : List Byte
  deriving DecidableEq, Repr

/-- What a block makes of a request: its state after it with the answer; none when a link it must read leads to no record. -/
abbrev Owned := Option (State × Answer)

/-- The block takes the request and answers OK. -/
def took (s : State) (results : List Byte) : Owned := some (s, ⟨.ok, results⟩)

/-- The block refuses the request with a status that carries no results, and changes nothing. -/
def refuse (st : Status) (s : State) : Owned := some (s, ⟨st, []⟩)

/-- The block refuses the request with result bytes, and changes nothing. -/
def refuseWith (st : Status) (results : List Byte) (s : State) : Owned := some (s, ⟨st, results⟩)

/-- A frame's last byte is taken when main power is on and the controller is in FRAME inside its window (R149, R168). -/
def State.takesFrame (s : State) (p : Port) : Bool :=
  s.power.main &&
    match (s.port p).rx with
    | .frame e => decide (e < Config.portWindow)
    | .hunt | .respond _ => false

/-- A controller's receive state. -/
def State.setRx (p : Port) (rx : PortRx) (s : State) : State := s.setPort p { s.port p with rx := rx }

/-- The controller begins a response (R152). -/
def State.respond (p : Port) (code tag : Byte) (a : Answer) (s : State) : State :=
  s.setRx p (.respond ⟨code, tag, a.status, a.results⟩)

/-- A valid frame of a request (R149 to R152): outside FRAME its bytes are discarded; a port without the right is answered
NOT_PERMITTED; otherwise the request is passed to the block that owns it, which takes it whole, and its answer is sent. The
length test of R151 is each owner's first: a body too short is answered OUT_OF_RANGE. -/
def request (r : Request) (p : Port) (tag : Byte) (owner : State → Owned) (s : State) :
    Host.Outcome State Fault Refusal :=
  if s.takesFrame p then
    if r.permitted p then
      match owner s with
      | some (t, a) => .next (t.respond p r.code tag a)
      | none => .fault .brokenLink
    else .next (s.respond p r.code tag ⟨.notPermitted, []⟩)
  else .next s

/-- An owner of a request whose first parameter is a chamber: outside 0..3 it is refused OUT_OF_RANGE. -/
def withChamber (b : Byte) (k : ChamberNo → State → Owned) (s : State) : Owned :=
  match finOf 4 b with
  | some c => k c s
  | none => refuse .outOfRange s

/-- The outcome of an operation that reads through links: none is the fault of a link that leads to no record. -/
def orBroken (o : Option State) : Host.Outcome State Fault Refusal :=
  match o with
  | some t => .next t
  | none => .fault .brokenLink

/-- Something only taken while main power is on (R168). -/
def whilePowered (s : State) (o : Host.Outcome State Fault Refusal) : Host.Outcome State Fault Refusal :=
  if s.power.main then o else .next s

end Sys2Proof.Machine
end

