-- ==== Sys2Proof/Machine/Operands.lean ====
section
/-! DEFINITION. How values travel in frames: the codes of the named lists, the encodings of R174 by kind, the records a READ
returns, the label record of R176, and the bytes of response and disposition frames (R174, R175). -/

namespace Sys2Proof.Machine

/-! ### Codes of named lists: 0 for the first value listed, 1 for the next (R174) -/

def boolCode (b : Bool) : Nat := if b then 1 else 0

def Port.code : Port → Nat
  | .kiln => 0 | .line => 1 | .yard => 2

def DoorLevel.code : DoorLevel → Nat
  | .opened => 0 | .closed => 1

def Status.code : Status → Nat
  | .ok => 0 | .queued => 1 | .limited => 2 | .none => 3 | .full => 4 | .notPermitted => 5 | .wrongState => 6
  | .queueFull => 7 | .tableFull => 8 | .noCharge => 9 | .noPack => 10 | .inUse => 11 | .invalid => 12
  | .notOldest => 13 | .notIssued => 14 | .drawActive => 15 | .doorOpen => 16 | .outOfRange => 17 | .unknown => 18

def ChamberState.code : ChamberState → Nat
  | .empty => 0 | .loaded => 1 | .running => 2 | .held => 3 | .doorHold => 4 | .cooling => 5 | .complete => 6

def ReturnState.code : ReturnState → Nat
  | .running => 0 | .held => 1

/-- FREE is 0, the first state of R7. -/
def ChargeState.code : ChargeState → Nat
  | .assigned => 1 | .loaded => 2 | .inKiln => 3 | .dried => 4 | .released => 5 | .onLine => 6 | .planed => 7

def RunCommand.code : RunCommand → Nat
  | .hold => 0 | .resume => 1 | .step => 2 | .skipPhase => 3

def Phase.code : Phase → Nat
  | .dry => 0 | .equalize => 1 | .condition => 2

def Basis.code : Basis → Nat
  | .wettestHalf => 0 | .mean => 1 | .driest => 2

def phaseOfCode : Nat → Option Phase
  | 0 => some .dry | 1 => some .equalize | 2 => some .condition | _ => none

def basisOfCode : Nat → Option Basis
  | 0 => some .wettestHalf | 1 => some .mean | 2 => some .driest | _ => none

def SlotTrust.code : SlotTrust → Nat
  | .off => 0 | .new => 1 | .good _ => 2 | .suspect .. => 3 | .fault .. => 4 | .stale _ => 5

def DryBulbTrust.code : DryBulbTrust → Nat
  | .new => 0 | .good _ => 1 | .fault _ => 2 | .stale _ => 3

def FaultCause.code : FaultCause → Nat
  | .short => 0 | .opened => 1

def DebounceSetting.code : DebounceSetting → Nat
  | .zero => 0 | .quarter => 1 | .one => 2 | .four => 3

def debounceOfCode : Nat → Option DebounceSetting
  | 0 => some .zero | 1 => some .quarter | 2 => some .one | 3 => some .four | _ => none

/-- The debounce settings in sixty-fourths (R88). -/
def DebounceSetting.period : DebounceSetting → Nat
  | .zero => 0 | .quarter => 16 | .one => 64 | .four => 256

def RingMode.code : RingMode → Nat
  | .overwrite => 0 | .stop => 1

def ringModeOfCode : Nat → Option RingMode
  | 0 => some .overwrite | 1 => some .stop | _ => none

def RingPolicy.code : RingPolicy → Nat
  | .each => 0 | .full => 1

def ringPolicyOfCode : Nat → Option RingPolicy
  | 0 => some .each | 1 => some .full | _ => none

def CloseOutcome.code : CloseOutcome → Nat
  | .returned => 0 | .long => 1 | .stamp => 2

def CoolingCause.code : CoolingCause → Nat
  | .lastStep => 0 | .step => 1 | .skipPhase => 2 | .abort => 3

def AutoHoldReason.code : AutoHoldReason → Nat
  | .lowProbes => 0 | .doorLong => 1

/-- The kinds of R96 in its order. -/
def Event.code : Event → Nat
  | .doorOpen _ => 0 | .doorClose .. => 1 | .start _ => 2 | .command .. => 3 | .step _ => 4 | .cooling _ => 5
  | .complete => 6 | .autoHold _ => 7 | .probeFault .. => 8 | .check .. => 9 | .mark .. => 10 | .powerReturn _ => 11

def Disposition.code : Disposition → Nat
  | .pack => 0 | .wet => 1 | .reject => 2

def DispositionCause.code : DispositionCause → Nat
  | .none => 0 | .short => 1 | .full => 2 | .noCharge => 3

def PackState.code : PackState → Nat
  | .opened => 1 | .closed => 2 | .issued => 3

def CloseCause.code : CloseCause → Nat
  | .target => 0 | .closePack => 1 | .idle => 2 | .drawEnd => 3

def Grade.code : Grade → Nat
  | .a => 0 | .b => 1 | .c => 2

def Table.code : Table → Nat
  | .chambers => 0 | .charges => 1 | .probes => 2 | .ring c => 3 + c.val | .schedules => 7 | .steps => 8
  | .staging => 9 | .species => 10 | .packs => 11 | .draw => 12 | .clock => 13

/-- The table a code names (R174). -/
def tableOfCode : Nat → Option Table
  | 0 => some .chambers | 1 => some .charges | 2 => some .probes | 3 => some (.ring 0) | 4 => some (.ring 1)
  | 5 => some (.ring 2) | 6 => some (.ring 3) | 7 => some .schedules | 8 => some .steps | 9 => some .staging
  | 10 => some .species | 11 => some .packs | 12 => some .draw | 13 => some .clock | _ => none

/-- A yes-no or off-on code (R174). -/
def boolOfCode : Nat → Option Bool
  | 0 => some false | 1 => some true | _ => none

/-! ### Kinds of R174 -/

/-- An optional field: a presence byte, then the value, or as many zero bytes as it has. -/
def optField {α : Type} (width : Nat) (enc : α → List Byte) : Option α → List Byte
  | none => 0#8 :: List.replicate width 0#8
  | some a => 1#8 :: enc a

/-- A count of FIFO records, ring entries, packs of the label queue or free records: one byte, which holds the top of its range
(R174; log entry 6). -/
def countField (n : Nat) : List Byte := u8 n

/-- A flag that R36 lists as "set or clear", a named list of R174: 0 for set, which is listed first, and 1 for clear. -/
def setOrClear (set : Bool) : List Byte := u8 (if set then 0 else 1)

/-- An MC that may be INVALID. -/
def invalidable : Option Nat → List Byte
  | none => u16 0xFFFF
  | some a => u16 a

def Stamp.field (t : Stamp) : List Byte := u32 t.seconds ++ u8 t.sixtyFourths

/-- A statistics record: the count, then five values, FFFFh in each for INVALID. -/
def Stats.field (st : Stats) : List Byte :=
  u8 st.n ++
    match st.values with
    | some v => u16 v.wettestHalf ++ u16 v.mean ++ u16 v.driest ++ u16 v.wettest ++ u16 v.spread
    | none => List.replicate 10 0xFF#8

/-- A set of notices (R174). -/
def NoticeSet.field (x : NoticeSet) : List Byte := u16 x.toNat

/-- A ring-entry detail before it is filled to five bytes. -/
def Event.detail : Event → List Byte
  | .doorOpen hold => u8 (if hold then 0 else 1)
  | .doorClose secs outcome => u32 secs ++ u8 outcome.code
  | .start origin => u8 (Port.code origin)
  | .command cmd applied => u8 cmd.code ++ u8 (if applied then 0 else 1)
  | .step old => u8 old
  | .cooling cause => u8 cause.code
  | .complete => []
  | .autoHold reason => u8 reason.code
  | .probeFault slot cause => u8 slot ++ u8 ((cause.map FaultCause.code).getD 0)
  | .check slot offset => u8 slot ++ s16 offset
  | .mark tag origin => u16 tag ++ u8 (Port.code origin)
  | .powerReturn st => u8 st.code

/-- A ring-entry detail, filled to five bytes with 0 (R174). -/
def Event.detailField (ev : Event) : List Byte := ev.detail ++ List.replicate (5 - ev.detail.length) 0#8

/-! ### The records a READ returns (R157) -/

def Settings.field (st : Settings) : List Byte :=
  u16 st.interval ++ u8 st.minProbes ++ u16 st.jump ++ u16 st.doorLimit ++ u8 st.debounce.code ++ u8 st.ringMode.code
    ++ u8 st.ringEnables.toNat ++ u8 st.ringPolicy.code

def DoorMonitor.field (d : DoorMonitor) : List Byte :=
  u8 (DoorLevel.code d.input) ++ u8 (DoorLevel.code d.door) ++ u8 (boolCode d.debounce.isSome)
    ++ optField 2 (fun b => u16 b.elapsed) d.debounce ++ optField 2 (fun b => u16 b.period) d.debounce
    ++ optField 4 (fun h => u32 h.openTime) d.hold ++ optField 1 (fun h => u8 (boolCode h.limitNotice)) d.hold

/-- The phase of the step a chamber's step index names, read through the schedule of its charge (R58, R60). While the chamber is
COMPLETE that schedule may be cleared or committed again (R31); the phase is then read from the library as it stands, and absent
when no such step is there: the model's choice, log entry 26. -/
def State.currentPhase (s : State) (c : ChamberNo) : Option Phase :=
  match (s.chamber c).stepIndex, s.bound c with
  | some t, some (_, ch) =>
    match s.scheduleOf ch with
    | some sch => (sch.steps[t]?).map (·.phase)
    | none => none
  | _, _ => none

/-- The charge ID beside a charge slot (R60, R117). -/
def State.idAt (s : State) : Option (Fin 8) → Option Nat
  | some k => (s.charge k).map (·.id)
  | none => none

/-- A record of CHAMBERS (R60, R88, R100). -/
def State.chamberRecord (s : State) (c : ChamberNo) : List Byte :=
  let ch := s.chamber c
  u8 c.val ++ u8 ch.state.code ++ optField 1 (fun r => u8 (ReturnState.code r)) ch.returnState
    ++ optField 1 (fun k : Fin 8 => u8 k.val) ch.chargeSlot ++ optField 2 u16 (s.idAt ch.chargeSlot)
    ++ optField 1 u8 ch.stepIndex ++ optField 1 (fun p => u8 (Phase.code p)) (s.currentPhase c)
    ++ u32 ch.dwell ++ u16 ch.drySetpoint ++ u16 ch.rampAcc ++ u16 ch.wetSetpoint ++ ch.latest.field
    ++ u16 ch.invalidCount ++ Config.commandQueueField (ch.queue.map fun q => BitVec.ofNat 8 q.code)
    ++ optField 2 (fun d : Countdown => u16 d.seconds) ch.countdown
    ++ optField 2 (fun d : Countdown => u16 d.loaded) ch.countdown
    ++ ch.settings.field ++ Config.levelField ch.state.heat ++ (s.monitor c).field
    ++ countField (s.eventRing c).entries.length ++ u16 (s.eventRing c).counter
    ++ Config.flagField (s.eventRing c).overflow

/-- A record of CHARGES (R1, R3 to R6): the slot number, then the state, then the fields of the tables of R3 to R6. No table
lists the slot and the state of an occupied record: their places are the model's choice, log entry 27. -/
def State.chargeRecord (s : State) (k : Fin 8) : List Byte :=
  match s.charge k with
  | none => u8 k.val ++ u8 0
  | some ch =>
    u8 k.val ++ u8 ch.state.code ++ u16 ch.id ++ u8 ch.species.val ++ u8 ch.schedule.val ++ u16 ch.targetMc
      ++ u16 ch.wetMargin ++ u16 ch.declared ++ optField 2 u16 ch.parent
      ++ optField 1 (fun c : ChamberNo => u8 c.val) ch.chamber ++ optField 4 u32 ch.startTime
      ++ optField 4 u32 ch.endTime ++ optField 11 Stats.field ch.lastStats ++ optField 11 Stats.field ch.finalStats
      ++ u16 ch.doorOpenings ++ u32 ch.doorSeconds
      ++ u32 ch.graded ++ u32 ch.wet ++ u32 ch.rejected ++ u32 ch.unseen ++ optField 2 u16 ch.remaining
      ++ u32 ch.overrun ++ u32 ch.packed ++ u32 ch.unmeasured ++ optField 2 u16 ch.firstPack
      ++ optField 2 u16 ch.lastPack ++ u16 ch.packsClosed ++ u8 ch.marks.toNat

/-- The accepted MC of a slot (R36). -/
def SlotTrust.accepted : SlotTrust → Option Nat
  | .off | .new => none
  | .good a | .suspect a _ | .stale a => some a
  | .fault _ a => a

/-- The pending MC of a slot (R36). -/
def SlotTrust.pendingMc : SlotTrust → Option Nat
  | .suspect _ p => some p
  | .off | .new | .good _ | .fault .. | .stale _ => none

/-- The fault cause of a slot (R36). -/
def SlotTrust.faultCause : SlotTrust → Option FaultCause
  | .fault cause _ => some cause
  | .off | .new | .good _ | .suspect .. | .stale _ => none

/-- A slot is enabled exactly when it is not OFF (R37, R51). -/
def SlotTrust.enabled : SlotTrust → Bool
  | .off => false
  | .new | .good _ | .suspect .. | .fault .. | .stale _ => true

/-- A sample slot's record of PROBES (R36, R55). -/
def sampleRecord (c : ChamberNo) (i : Nat) (x : SampleSlot) : List Byte :=
  u8 c.val ++ u8 i ++ u8 (boolCode x.trust.enabled) ++ u8 x.trust.code ++ optField 2 u16 x.lastCode
    ++ optField 5 Stamp.field x.stamp ++ u16 x.age.seconds ++ optField 2 u16 x.trust.accepted
    ++ optField 2 u16 x.trust.pendingMc ++ s16 x.offset
    ++ optField 1 (fun f => u8 (FaultCause.code f)) x.trust.faultCause
    ++ setOrClear x.flags.wetLimit ++ setOrClear x.flags.dryLimit ++ setOrClear x.flags.noTemp

/-- A dry-bulb slot's record of PROBES (R38, R55). -/
def dryBulbRecord (c : ChamberNo) (d : DryBulb) : List Byte :=
  u8 c.val ++ u8 16 ++ u8 d.trust.code ++ optField 2 u16 d.lastCode ++ optField 5 Stamp.field d.stamp
    ++ u16 d.age.seconds ++ optField 2 u16 d.temperature

/-- A record of PROBES: index chamber × 17 + slot (R55). -/
def State.probeRecord (s : State) (index : Nat) : List Byte :=
  let c : ChamberNo := Fin.ofNat 4 (index / 17)
  if h : index % 17 < 16 then sampleRecord c (index % 17) ((s.bank c).samples[index % 17])
  else dryBulbRecord c (s.bank c).dryBulb

/-- A ring entry (R95, R100). -/
def RingEntry.field (e : RingEntry) : List Byte :=
  u16 e.seq ++ e.time.field ++ u8 (boolCode e.timeUnsure) ++ u8 e.event.code ++ u8 e.chamberState.code
    ++ optField 1 u8 e.stepIndex ++ invalidable e.wettestHalf ++ optField 2 u16 e.dryBulb ++ e.event.detailField

/-- A record of SCHEDULES (R20, R21): EMPTY is 0 and VALID 1. -/
def State.scheduleRecord (s : State) (n : Fin 16) : List Byte :=
  match s.schedules[n] with
  | none => u8 n.val ++ u8 0
  | some sch =>
    u8 n.val ++ u8 1 ++ u8 sch.steps.length ++ u16 sch.targetMc ++ u16 sch.wetMargin ++ u16 sch.coolTemp
      ++ u16 sch.coolTime

def Step.field (st : Step) : List Byte :=
  u8 st.phase.code ++ u8 st.basis.code ++ u16 st.changeAt ++ u16 st.dryBulb ++ u16 st.depression ++ u16 st.minDwell
    ++ u16 st.ramp

/-- A record of STEPS: index 12 × schedule + slot (R20). -/
def State.stepRecord (s : State) (index : Nat) : List Byte :=
  u8 index ++
    match s.schedules[Fin.ofNat 16 (index / 12)] with
    | none => Config.emptyStepField
    | some sch =>
      match sch.steps[index % 12]? with
      | some st => st.field
      | none => Config.emptyStepField

/-- A record of STAGING: 0 the header, t + 1 step slot t (R23). -/
def State.stagingRecord (s : State) (index : Nat) : List Byte :=
  match index with
  | 0 =>
    let h := s.staging.header
    u8 h.stepCount.toNat ++ u16 h.targetMc.toNat ++ u16 h.wetMargin.toNat ++ u16 h.coolTemp.toNat ++ u16 h.coolTime.toNat
  | t + 1 =>
    let st := s.staging.steps[Fin.ofNat 12 t]
    u8 st.phase.toNat ++ u8 st.basis.toNat ++ u16 st.changeAt.toNat ++ u16 st.dryBulb.toNat ++ u16 st.depression.toNat
      ++ u16 st.minDwell.toNat ++ u16 st.ramp.toNat

/-- A record of SPECIES (R28): EMPTY is 0 and VALID 1; each breakpoint is its code, then its MC. -/
def State.speciesRecord (s : State) (i : Fin 8) : List Byte :=
  match s.species[i] with
  | none => u8 i.val ++ u8 0
  | some sp => u8 i.val ++ u8 1 ++ sp.points.toList.flatMap (fun b => u16 b.code ++ u16 b.mc) ++ u8 sp.coeff

/-- A draw outcome: ten bytes after its presence byte (R176). -/
def DrawOutcome.field (o : DrawOutcome) : List Byte := u32 o.unseen ++ u16 o.shortfall ++ u32 o.overrun

/-- The label record of R176. -/
def labelRecord (p : Pack) (l : Label) : List Byte :=
  u16 p.number ++ u16 p.chargeId ++ optField 2 u16 p.parent ++ u8 p.species.val ++ u8 p.schedule.val ++ u8 p.thickness
    ++ u16 p.width ++ u16 p.target ++ u16 p.nominalLength ++ p.openTime.field ++ u8 l.closeCause.code ++ l.closeTime.field
    ++ u16 p.boards ++ u16 p.measured ++ u16 p.unmeasured ++ u32 p.totalLength ++ u32 l.volume
    ++ optField 2 u16 l.meanMc ++ optField 2 u16 (if p.measured = 0 then none else p.maxMc) ++ u16 l.targetMc
    ++ invalidable l.finalWettestHalf ++ u8 l.finalCount ++ u32 l.kilnStart ++ u32 l.kilnEnd ++ u16 l.doorOpenings
    ++ u16 l.doorMinutes ++ u8 l.marks.toNat ++ optField 10 DrawOutcome.field l.outcome ++ u8 l.grade.code
    ++ u8 (boolCode l.timeUnsure)

/-- A field of `width` bytes marked absent (R142, R174). -/
def absentField (width : Nat) : List Byte := List.replicate (width + 1) 0#8

/-- An OPEN pack as a READ of PACKS returns it (R125, R142): its running fields, and the label fields marked absent, in the
order of the table of R137. The layout is an inference of log entry 11. That the charge slot, which R125 calls absent from close and
not optional, is sent with a presence byte, and so is each label field that R137 does not call optional, is the model's choice, log
entry 29. -/
def openPackRecord (p : Pack) : List Byte :=
  u16 p.number ++ optField 1 (fun k : Fin 8 => u8 k.val) p.chargeSlot ++ u16 p.chargeId ++ optField 2 u16 p.parent
    ++ u8 p.species.val ++ u8 p.schedule.val ++ u8 p.thickness ++ u16 p.width ++ u16 p.target ++ u16 p.nominalLength
    ++ p.openTime.field ++ u16 p.boards ++ u16 p.measured ++ u16 p.unmeasured ++ u32 p.mcSum ++ optField 2 u16 p.maxMc
    ++ u32 p.totalLength ++ absentField 1 ++ absentField 5
    ++ absentField 4 ++ absentField 2 ++ absentField 2 ++ absentField 2 ++ absentField 1 ++ absentField 4 ++ absentField 4
    ++ absentField 2 ++ absentField 2 ++ absentField 1 ++ absentField 10 ++ absentField 1 ++ u8 0

/-- A record of PACKS (R125, R142, R176). -/
def State.packRecord (s : State) (k : Fin 16) : List Byte :=
  match s.pack k with
  | none => u8 k.val ++ u8 0
  | some p =>
    u8 k.val ++ u8 p.state.code ++
      match p.label with
      | some l => labelRecord p l
      | none => openPackRecord p

/-- The state of the draw record: NONE 0, ACTIVE 1, ENDING 2 (R117). -/
def State.drawCode (s : State) : Nat :=
  match s.draw with
  | none => 0
  | some d => if d.ending then 2 else 1

def PackPlan.field (pl : PackPlan) : List Byte :=
  u8 pl.thickness ++ u16 pl.width ++ u16 pl.target ++ u16 pl.minLength ++ u16 pl.nominalLength
    ++ u8 (boolCode pl.closeOnIdle) ++ u16 pl.silence

/-- The record of DRAW (R114, R117, R124, R136): the draw record, the pack plan, the receiver's and the tally's fields. That the
charge ID is an optional field, absent in state NONE as the charge slot is, is the model's choice, log entry 28. -/
def State.drawRecord (s : State) : List Byte :=
  let slot := s.draw.map (·.slot)
  u8 s.drawCode ++ optField 1 (fun k : Fin 8 => u8 k.val) slot ++ optField 2 u16 (s.idAt slot)
    ++ optField 1 (fun d : Draw => u8 (boolCode d.autoEnd)) s.draw ++ s.plan.field
    ++ optField 1 (fun q : Byte => [q]) s.lastSeq
    ++ optField 3 (fun r : Reply => [r.sequence] ++ u8 r.disposition.code ++ u8 r.cause.code) s.lastReply
    ++ countField s.fifo.length ++ Config.levelField s.lineReady
    ++ u16 s.packCounter ++ optField 2 (fun x : Silence => u16 x.seconds) s.silence
    ++ optField 2 (fun x : Silence => u16 x.loaded) s.silence
    ++ optField 1 (fun x : Silence => u8 (boolCode x.closeOnIdle)) s.silence ++ u8 (boolCode s.blocked)

/-- The record of CLOCK (R157). -/
def State.clockRecord (s : State) : List Byte :=
  s.stamp.field ++ Config.flagField s.clock.lost ++ Config.flagField s.power.backupValid ++ u16 s.chargeCounter

/-- A table's record count; a ring's is its current count (R155, R157). -/
def State.tableCount (s : State) : Table → Nat
  | .chambers => 4 | .charges => 8 | .probes => 68 | .ring c => (s.eventRing c).entries.length | .schedules => 16
  | .steps => 192 | .staging => 13 | .species => 8 | .packs => 16 | .draw => 1 | .clock => 1

/-- The index range of a table for SET-CURSOR: 0..7 for a ring whatever its count (R154). -/
def Table.indexCount : Table → Nat
  | .chambers => 4 | .charges => 8 | .probes => 68 | .ring _ => 8 | .schedules => 16 | .steps => 192 | .staging => 13
  | .species => 8 | .packs => 16 | .draw => 1 | .clock => 1

/-- The record a READ returns (R157). -/
def State.tableRecord (s : State) (t : Table) (index : Nat) : List Byte :=
  match t with
  | .chambers => s.chamberRecord (Fin.ofNat 4 index)
  | .charges => s.chargeRecord (Fin.ofNat 8 index)
  | .probes => s.probeRecord index
  | .ring c =>
    match (s.eventRing c).entries[index]? with
    | some e => e.field
    | none => []
  | .schedules => s.scheduleRecord (Fin.ofNat 16 index)
  | .steps => s.stepRecord index
  | .staging => s.stagingRecord index
  | .species => s.speciesRecord (Fin.ofNat 8 index)
  | .packs => s.packRecord (Fin.ofNat 16 index)
  | .draw => s.drawRecord
  | .clock => s.clockRecord

/-! ### Frames the part sends -/

/-- The bytes of a response frame (R152, R174): start byte, length, code, tag, status, results, CRC. -/
def Response.frame (r : Response) : List Byte :=
  let body := r.code :: r.tag :: BitVec.ofNat 8 r.status.code :: r.results
  let covered := BitVec.ofNat 8 body.length :: body
  0x3C#8 :: covered ++ crcField (crc16 covered)

/-- The bytes of a disposition frame (R175): start byte, sequence, disposition and cause, check byte. -/
def Reply.frame (r : Reply) : List Byte :=
  let verdict := BitVec.ofNat 8 ((r.disposition.code + 1) * 16 + r.cause.code)
  [0x5A#8, r.sequence, verdict, 0#8 - (r.sequence + verdict)]

end Sys2Proof.Machine
end

