-- ==== Sys2Proof/Machine/Probes.lean ====
section
/-! DEFINITION. The probe link, the probe table and the Moisture unit (chapter 3): readings and their conversion, staleness
and statistics, PROBE-ENABLE and CHECK. -/

namespace Sys2Proof.Machine

/-! ### Conversion (R41 to R45) -/

/-- The fault codes of R41: below 300 SHORT, above 1400 OPEN. -/
def faultCauseOf (code : Nat) : Option FaultCause :=
  if code < 300 then some .short else if 1400 < code then some .opened else none

/-- The raw MC in the lowest segment that holds the code (R42). -/
def segmentMc (code : Nat) : List Breakpoint → Option Nat
  | a :: b :: rest =>
    if a.code ≤ code && code ≤ b.code then
      some (a.mc - ((a.mc - b.mc) * (code - a.code) + (b.code - a.code) / 2) / (b.code - a.code))
    else segmentMc code (b :: rest)
  | [_] | [] => none

/-- The curve stage (R42): the raw MC with WET_LIMIT and DRY_LIMIT. A code within the curve's ends lies in some segment, so
the last default is not reached. -/
def Species.rawMc (sp : Species) (code : Nat) : Nat × Bool × Bool :=
  if code < sp.points[0].code then (sp.points[0].mc, true, false)
  else if sp.points[5].code < code then (sp.points[5].mc, false, true)
  else ((segmentMc code sp.points.toList).getD 0, false, false)

/-- Division by 10 to the nearest whole number, an exact half away from zero (R43). -/
def roundTenth (m : Int) : Int := if 0 ≤ m then (m + 5) / 10 else -((-m + 5) / 10)

/-- The factor F of the temperature stage (R43), clamped to 2048..6144. -/
def temperatureFactor (coeff temperature : Nat) : Nat :=
  (clampInt 2048 6144 (4096 - roundTenth ((coeff : Int) * ((temperature : Int) - 200)))).toNat

/-- The temperature stage (R43). -/
def correctedMc (coeff temperature raw : Nat) : Nat := (raw * temperatureFactor coeff temperature + 2048) / 4096

/-- The offset stage (R44). -/
def candidateMc (corrected : Nat) (offset : Int) : Nat := (clampInt 0 600 ((corrected : Int) + offset)).toNat

/-- The distance of two MC values. -/
def mcDistance (a b : Nat) : Nat := (a - b) + (b - a)

/-- The acceptance stage (R45, R46) with jump limit `jump`. A slot that is OFF is not reached by it (R40). -/
def SlotTrust.accept (jump candidate : Nat) : SlotTrust → SlotTrust
  | .off => .off
  | .new | .fault .. => .good candidate
  | .good a | .stale a => if mcDistance candidate a ≤ jump then .good candidate else .suspect a candidate
  | .suspect a pending => if mcDistance candidate pending ≤ jump then .good candidate else .suspect a candidate

/-! ### Readings (R35 to R41) -/

/-- One sample slot replaced. -/
def ProbeBank.setSample (i : Fin 16) (x : SampleSlot) (b : ProbeBank) : ProbeBank :=
  { b with samples := b.samples.set i x }

/-- The storing of R35 in a sample slot. -/
def SampleSlot.stored (code : Nat) (now : Stamp) (x : SampleSlot) : SampleSlot :=
  { x with lastCode := some code, stamp := some now, age := ⟨0, 0⟩ }

/-- The storing of R35 in a dry-bulb slot. -/
def DryBulb.stored (code : Nat) (now : Stamp) (d : DryBulb) : DryBulb :=
  { d with lastCode := some code, stamp := some now, age := ⟨0, 0⟩ }

/-- A slot that takes a fault code (R41): pending MC and flags dropped, the accepted MC kept. -/
def SampleSlot.faulted (cause : FaultCause) (x : SampleSlot) : SampleSlot :=
  { x with trust := .fault cause x.trust.accepted, flags := ConvFlags.clear }

def SlotTrust.isFault : SlotTrust → Bool
  | .fault .. => true
  | .off | .new | .good _ | .suspect .. | .stale _ => false

/-- A slot that takes a converted code (R42 to R45): temperature `t` is absent when no valid reading was taken since LOAD,
and 20.0 °C stands for it (R39). -/
def SampleSlot.converted (sp : Species) (t : Option Nat) (jump code : Nat) (x : SampleSlot) : SampleSlot :=
  let raw := sp.rawMc code
  let candidate := candidateMc (correctedMc sp.coeff (t.getD 200) raw.1) x.offset
  { x with trust := x.trust.accept jump candidate, flags := ⟨raw.2.1, raw.2.2, t.isNone⟩ }

/-- The species record of the charge bound to a chamber (R40). -/
def State.speciesAt (s : State) (c : ChamberNo) : Option Species :=
  match s.bound c with
  | some (_, ch) => s.species[ch.species]
  | none => none

/-- A PROBE notice and a PROBE_FAULT event at the entry of a slot to FAULT (R38, R41). -/
def State.probeFaulted (c : ChamberNo) (slot : Nat) (cause : Option FaultCause) (s : State) : State :=
  (s.raise .probe).offer c (.probeFault slot cause)

/-- A reading on channel 0..15 (R35, R40). -/
def sampleReading (c : ChamberNo) (i : Fin 16) (code : Nat) (s : State) : Option State :=
  let b := s.bank c
  let x := b.samples[i].stored code s.stamp
  if (s.chamber c).state == .empty || !x.trust.enabled then some (s.setBank c (b.setSample i x))
  else
    match faultCauseOf code with
    | some cause =>
      let t := s.setBank c (b.setSample i (x.faulted cause))
      some (if x.trust.isFault then t else t.probeFaulted c i.val (some cause))
    | none =>
      (s.speciesAt c).map fun sp =>
        s.setBank c (b.setSample i (x.converted sp b.dryBulb.temperature (s.chamber c).settings.jump code))

def DryBulbTrust.isFault : DryBulbTrust → Bool
  | .fault _ => true
  | .new | .good _ | .stale _ => false

/-- A reading on channel 16 (R35, R38). -/
def dryBulbReading (c : ChamberNo) (code : Nat) (s : State) : State :=
  let b := s.bank c
  let d := b.dryBulb.stored code s.stamp
  if (s.chamber c).state == .empty then s.setBank c { b with dryBulb := d }
  else if 1500 < code then
    let t := s.setBank c { b with dryBulb := { d with trust := .fault d.temperature } }
    if d.trust.isFault then t else t.probeFaulted c 16 none
  else s.setBank c { b with dryBulb := { d with trust := .good code } }

/-- A reading handed to the probe table (R35): a chamber outside 0..3 or a channel outside 0..16 is ignored. -/
def takeReading (chamber channel code : Nat) (s : State) : Option State :=
  if hc : chamber < 4 then
    if hi : channel < 16 then sampleReading ⟨chamber, hc⟩ ⟨channel, hi⟩ code s
    else if channel = 16 then some (dryBulbReading ⟨chamber, hc⟩ code s)
    else some s
  else some s

/-- A sensor link takes a whole frame in FRAME inside its window, while main power is on (R34, R103, R168). -/
def State.linkTakes (s : State) (rx : LinkRx) : Bool :=
  s.power.main &&
    match rx with
    | .frame e => decide (e < Config.linkWindow)
    | .hunt => false

/-- The code of a probe frame: twelve bits, the upper four of its first byte ignored (R175). -/
def probeCode (high low : Byte) : Nat := nat16 (high &&& 0x0F#8) low

/-- PROBE_FRAME (R34, R35, R175). -/
def execProbeFrame (chamber channel codeHigh codeLow checkByte : Byte) (s : State) :
    Host.Outcome State Fault Refusal :=
  if s.linkTakes s.probeRx then
    if sumsToZero [chamber, channel, codeHigh, codeLow, checkByte] then
      orBroken (takeReading chamber.toNat channel.toNat (probeCode codeHigh codeLow) { s with probeRx := .hunt })
    else .next { s with probeRx := .hunt }
  else .next s

/-- PROBE_START_BYTE (R34): in FRAME the byte is one of the frame's. -/
def execProbeStartByte (s : State) : Host.Outcome State Fault Refusal :=
  whilePowered s (.next (if s.probeRx == .hunt then { s with probeRx := .frame 0 } else s))

/-- The window of a sensor link has ended (R167). -/
def LinkRx.windowOver : LinkRx → Bool
  | .frame e => decide (Config.linkWindow ≤ e)
  | .hunt => false

/-- PROBE_FRAME_WINDOW_EXPIRY (R34). -/
def execProbeFrameWindowExpiry (s : State) : Host.Outcome State Fault Refusal :=
  whilePowered s (.next (if s.probeRx.windowOver then { s with probeRx := .hunt } else s))

/-! ### Staleness and statistics (R47 to R49) -/

/-- The staleness test on a sample slot, with evaluation interval `interval` (R47). -/
def SampleSlot.aged (interval : Nat) (x : SampleSlot) : SampleSlot :=
  match x.trust with
  | .good a => if 2 * interval < x.age.seconds then { x with trust := .stale a } else x
  | .off | .new | .suspect .. | .fault .. | .stale _ => x

/-- The staleness test on a dry-bulb slot (R47). -/
def DryBulb.aged (interval : Nat) (d : DryBulb) : DryBulb :=
  match d.trust with
  | .good t => if 2 * interval < d.age.seconds then { d with trust := .stale t } else d
  | .new | .fault _ | .stale _ => d

/-- The accepted MC of a slot of the valid set (R48). -/
def SlotTrust.validMc : SlotTrust → Option Nat
  | .good a => some a
  | .off | .new | .suspect .. | .fault .. | .stale _ => none

/-- The accepted values of the valid set (R48). -/
def ProbeBank.validValues (b : ProbeBank) : List Nat := b.samples.toList.filterMap (·.trust.validMc)

/-- A value put in its place in a list taken wettest first. -/
def insertWettest (x : Nat) : List Nat → List Nat
  | [] => [x]
  | y :: rest => if y ≤ x then x :: y :: rest else y :: insertWettest x rest

/-- The values taken wettest first (R49). -/
def wettestFirst : List Nat → List Nat
  | [] => []
  | x :: rest => insertWettest x (wettestFirst rest)

/-- The rounded mean of R49: half the divisor added, remainder discarded. -/
def roundedMean (values : List Nat) : Nat := (values.sum + values.length / 2) / values.length

/-- The statistics of R49. -/
def statValues (values : List Nat) : StatValues :=
  let sorted := wettestFirst values
  let wettest := sorted.headD 0
  let driest := sorted.getLastD 0
  { wettestHalf := roundedMean (sorted.take ((values.length + 1) / 2))
    mean := roundedMean values
    driest := driest
    wettest := wettest
    spread := wettest - driest }

/-- The statistics record of a valid set (R48). -/
def statsOf (minProbes : Nat) (values : List Nat) : Stats :=
  ⟨values.length, if values.length < minProbes then none else some (statValues values)⟩

/-- One computation of statistics (R47 to R50): the staleness test, then the record. -/
def ProbeBank.computed (st : Settings) (b : ProbeBank) : ProbeBank :=
  let tested : ProbeBank :=
    { b with samples := b.samples.map (SampleSlot.aged st.interval), dryBulb := b.dryBulb.aged st.interval }
  { tested with stats := statsOf st.minProbes tested.validValues }

/-- The probe records after LOAD (R52). -/
def SampleSlot.loaded (x : SampleSlot) : SampleSlot :=
  { x with trust := if x.trust.enabled then .new else .off, flags := ConvFlags.clear, offset := 0 }

/-- The probe records and statistics of a chamber after LOAD (R52). -/
def ProbeBank.loaded (b : ProbeBank) : ProbeBank :=
  ⟨b.samples.map SampleSlot.loaded, { b.dryBulb with trust := .new }, ⟨0, none⟩⟩

/-- The probe records and statistics of a chamber after a clear reset (R57): the enabled set is kept. -/
def ProbeBank.reset (b : ProbeBank) : ProbeBank :=
  ⟨b.samples.map fun x => SampleSlot.cleared x.trust.enabled, DryBulb.cleared, ⟨0, none⟩⟩

/-! ### PROBE-ENABLE and CHECK -/

/-- A slot whose enablement is set by PROBE-ENABLE (R51). -/
def SampleSlot.enable (on : Bool) (x : SampleSlot) : SampleSlot :=
  if on == x.trust.enabled then x else { x with trust := if on then .new else .off, flags := ConvFlags.clear }

/-- PROBE-ENABLE on the slots of a chamber (R51). -/
def ProbeBank.enable (slots : BitVec 16) (b : ProbeBank) : ProbeBank :=
  { b with samples := Vector.ofFn fun i : Fin 16 => b.samples[i].enable (slots.getLsbD i) }

/-- PROBE-ENABLE at the probe table (R51). -/
def probeEnableOwner (params : List Byte) (s : State) : Owned :=
  match params with
  | b :: hi :: lo :: _ =>
    withChamber b (fun c s => took (s.setBank c ((s.bank c).enable (hi ++ lo))) [hi, lo]) s
  | _ => refuse .outOfRange s

/-- CHECK on a GOOD slot of a running chamber (R53): `a` is its accepted MC and `mc` the oven-dry MC. -/
def checkSlot (c : ChamberNo) (i : Fin 16) (mc a : Nat) (s : State) : Owned :=
  let b := s.bank c
  let x := b.samples[i]
  let sum : Int := x.offset + ((mc : Int) - (a : Int))
  let o := clampInt (-50) 50 sum
  let accepted := (clampInt 0 600 ((a : Int) - x.offset + o)).toNat
  let t := (s.setBank c (b.setSample i { x with trust := .good accepted, offset := o })).offer c (.check i.val o)
  some (t, ⟨if o = sum then .ok else .limited, s16 o ++ u16 accepted⟩)

/-- CHECK at the probe table (R53). -/
def checkOwner (params : List Byte) (s : State) : Owned :=
  match params with
  | b :: sl :: hi :: lo :: _ =>
    match finOf 4 b, finOf 16 sl with
    | some c, some i =>
      if 600 < nat16 hi lo then refuse .outOfRange s
      else if !(s.chamber c).state.inRun then refuse .wrongState s
      else
        match (s.bank c).samples[i].trust with
        | .good a => checkSlot c i (nat16 hi lo) a s
        | .off | .new | .suspect .. | .fault .. | .stale _ => refuse .wrongState s
    | _, _ => refuse .outOfRange s
  | _ => refuse .outOfRange s

/-- PROBE-ENABLE (R51). -/
def execProbeEnable (p : Port) (tag : Byte) (params : List Byte) (s : State) : Host.Outcome State Fault Refusal :=
  request .probeEnable p tag (probeEnableOwner params) s

/-- CHECK (R53). -/
def execCheck (p : Port) (tag : Byte) (params : List Byte) (s : State) : Host.Outcome State Fault Refusal :=
  request .check p tag (checkOwner params) s

end Sys2Proof.Machine
end

