-- ==== Sys2Proof/Machine/Tally.lean ====
section
/-! DEFINITION. The draw record, the pack plan and the tally unit (chapter 7), and the label fields a pack close computes
(chapter 8): DRAW, END-DRAW, PACK-PLAN, CLOSE-PACK, the tally move, the draw end and line-silence expiry. -/

namespace Sys2Proof.Machine

/-! ### The label (R137 to R141) -/

/-- Volume in cubic decimetres (R138). -/
def packVolume (totalLength thickness width : Nat) : Nat := (totalLength * thickness * width + 50000) / 100000

/-- Mean MC (R138): absent with measured 0. -/
def packMean (mcSum measured : Nat) : Option Nat :=
  if measured = 0 then none else some ((mcSum + measured / 2) / measured)

/-- Door-open minutes (R139), stopping at 65535. -/
def doorMinutes (seconds : Nat) : Nat := min ((seconds + 30) / 60) Config.maxShort

/-- The grade class (R141). -/
def gradeOf (marks : MarkSet) (mean : Option Nat) (targetMc unmeasured boards : Nat) : Grade :=
  match mean with
  | none => .c
  | some m =>
    if Mark.aborted.among marks || targetMc + 10 < m || boards < unmeasured * 5 then .c
    else if m ≤ targetMc && unmeasured * 20 ≤ boards && !Mark.doorLong.among marks && !Mark.manualStep.among marks
        && !Mark.powerHold.among marks && !Mark.lowProbes.among marks then .a
    else .b

/-- What a close reads of the charge of a pack (R137, R139, R140): the record, with the fields that are present at every close. -/
structure CloseView where
  slot : Fin 8
  charge : Charge
  final : Stats
  start : Nat
  finish : Nat
  remaining : Nat
  deriving DecidableEq, Repr

/-- The charge a pack's charge slot names; none when the link, or a field R139 says is present, is missing. -/
def State.closeView (s : State) (p : Pack) : Option CloseView :=
  match p.chargeSlot with
  | none => none
  | some k =>
    match s.charge k with
    | none => none
    | some ch =>
      match ch.finalStats, ch.startTime, ch.endTime, ch.remaining with
      | some f, some a, some b, some r => some ⟨k, ch, f, a, b, r⟩
      | _, _, _, _ => none

/-- The draw outcome (R140): for a DRAW_END close alone. -/
def CloseView.outcome (v : CloseView) (cause : CloseCause) : Option DrawOutcome :=
  if cause = .drawEnd then some ⟨v.charge.unseen, v.remaining, v.charge.overrun⟩ else none

/-- The marks of a label (R139, R140): the charge's, with COUNT_SHORT for a DRAW_END close that leaves a shortfall. -/
def CloseView.marks (v : CloseView) (cause : CloseCause) : MarkSet :=
  if cause = .drawEnd ∧ 0 < v.remaining then Mark.countShort.join v.charge.marks else v.charge.marks

/-- The label fields (R137 to R141). -/
def labelOf (cause : CloseCause) (clock : MillClock) (p : Pack) (v : CloseView) : Label :=
  let mean := packMean p.mcSum p.measured
  { closeCause := cause
    closeTime := ⟨clock.seconds, clock.sixtyFourths⟩
    volume := packVolume p.totalLength p.thickness p.width
    meanMc := mean
    targetMc := v.charge.targetMc
    finalWettestHalf := v.final.values.map (·.wettestHalf)
    finalCount := v.final.n
    kilnStart := v.start
    kilnEnd := v.finish
    doorOpenings := v.charge.doorOpenings
    doorMinutes := doorMinutes v.charge.doorSeconds
    marks := v.marks cause
    outcome := v.outcome cause
    grade := gradeOf (v.marks cause) mean v.charge.targetMc p.unmeasured p.boards
    timeUnsure := clock.lost }

/-! ### Closing a pack (R131) -/

/-- The pack after its close (R131). -/
def Pack.closed (l : Label) (p : Pack) : Pack := { p with state := .closed, chargeSlot := none, label := some l }

/-- The charge after the close of a pack of it (R131 step 3). -/
def Charge.packClosed (number : Nat) (ch : Charge) : Charge :=
  { ch with lastPack := some number, packsClosed := satAdd Config.maxShort ch.packsClosed 1 }

/-- The close of the OPEN pack `p` in slot `k` (R131). -/
def State.closePack (cause : CloseCause) (k : Fin 16) (p : Pack) (s : State) : Option State :=
  (s.closeView p).map fun v =>
    let t := s.setPack k (some (p.closed (labelOf cause s.clock p v)))
    let t := t.modCharge v.slot (Charge.packClosed p.number)
    { t with labelQueue := t.labelQueue ++ [k] }.raise .label

/-- A close of the OPEN pack, when there is one. -/
def State.closeOpen (cause : CloseCause) (s : State) : Option State :=
  match s.openPack with
  | some (k, p) => s.closePack cause k p
  | none => some s

/-! ### Tally moves (R127 to R129) -/

/-- The pack number given at an opening (R128). -/
def State.assignedPack (s : State) : Nat := firstAbsent (fun n => (s.packByNumber n).isSome) 16 s.packCounter

/-- The pack a move opens (R128). -/
def Pack.begun (number : Nat) (slot : Fin 8) (ch : Charge) (plan : PackPlan) (now : Stamp) : Pack where
  state := .opened
  number := number
  chargeSlot := some slot
  chargeId := ch.id
  parent := ch.parent
  species := ch.species
  schedule := ch.schedule
  thickness := plan.thickness
  width := plan.width
  target := plan.target
  nominalLength := plan.nominalLength
  openTime := now
  boards := 0
  measured := 0
  unmeasured := 0
  mcSum := 0
  maxMc := none
  totalLength := 0
  label := none

/-- The pack a move adds its board to: the OPEN one, or the one it opens in the lowest FREE record for the charge of the FIFO
record (R127, R128). None when no record is FREE or the FIFO record's charge slot holds no charge. -/
def State.packForMove (b : BoardRecord) (s : State) : Option (State × Fin 16 × Pack) :=
  match s.openPack with
  | some (k, p) => some (s, k, p)
  | none =>
    match s.freePack, s.charge b.slot with
    | some k, some ch =>
      let number := s.assignedPack
      let p := Pack.begun number b.slot ch s.plan s.stamp
      let t := { s.setPack k (some p) with packCounter := nextNumber number }
      some (t.modCharge b.slot fun ch => { ch with firstPack := some (ch.firstPack.getD number) }, k, p)
    | _, _ => none

/-- A board added to a pack (R129). -/
def Pack.add (b : BoardRecord) (p : Pack) : Pack :=
  let p := { p with boards := p.boards + 1, totalLength := p.totalLength + b.length }
  match b.mc with
  | none => { p with unmeasured := p.unmeasured + 1 }
  | some m =>
    { p with
      mcSum := p.mcSum + m
      measured := p.measured + 1
      maxMc := some (match p.maxMc with
        | some top => max top m
        | none => m) }

/-- A board counted in its charge by the tally (R5, R129). -/
def Charge.addPacked (b : BoardRecord) (ch : Charge) : Charge :=
  { ch with
    packed := addCount ch.packed 1
    unmeasured := if b.mc.isNone then addCount ch.unmeasured 1 else ch.unmeasured }

/-- LINE_READY after a record has left the FIFO (R113): high when that brings the count to 24. -/
def readyAfterLeaving (count : Nat) (ready : Bool) : Bool := if count = 24 then true else ready

/-- LINE_READY after a record has entered the FIFO (R113): low when that brings the count to 28. -/
def readyAfterEntering (count : Nat) (ready : Bool) : Bool := if count = 28 then false else ready

/-- The adding of a move (R129): the record leaves the FIFO, and is counted in the pack and in the pack's charge. -/
def State.addBoard (b : BoardRecord) (rest : List BoardRecord) (k : Fin 16) (p : Pack) (s : State) : State :=
  let t := (s.setPack k (some (p.add b))).modCharge b.slot (Charge.addPacked b)
  { t with fifo := rest, lineReady := readyAfterLeaving rest.length t.lineReady }

/-- A tally move of record `b`, the rest of the FIFO being `rest` (R127): the pack closes when the board brings it to its
target. Blocked becomes no at the move (R130). -/
def State.moveBoard (b : BoardRecord) (rest : List BoardRecord) (s : State) : Option State :=
  match s.packForMove b with
  | none => none
  | some (t, k, p) =>
    let u := { t.addBoard b rest k p with blocked := false }
    let q := p.add b
    (if q.boards = q.target then u.closePack .target k q else some u).map State.checkBlocked

/-- A move is possible: the FIFO holds a record and a pack is OPEN or a pack record is FREE (R127). -/
def State.moveDue (s : State) : Bool := !s.fifo.isEmpty && (s.openPack.isSome || s.freePack.isSome)

/-- TALLY_MOVE (R127). -/
def execTallyMove (s : State) : Host.Outcome State Fault Refusal :=
  whilePowered s <|
    if s.moveDue then
      match s.fifo with
      | b :: rest => orBroken (s.moveBoard b rest)
      | [] => .next s
    else .next s

/-! ### The draw -/

/-- DRAW at the draw record (R118). -/
def drawOwner (params : List Byte) (s : State) : Owned :=
  match params with
  | hi :: lo :: au :: _ =>
    match boolOfCode au.toNat with
    | none => refuse .outOfRange s
    | some auto =>
      if s.draw.isSome then refuse .drawActive s
      else
        match s.chargeById (nat16 hi lo) with
        | none => refuse .noCharge s
        | some (k, ch) =>
          if ch.state != .released then refuse .noCharge s
          else
            let t := s.modCharge k fun ch => { ch with state := .onLine, remaining := some ch.declared }
            took { t with draw := some ⟨false, k, auto⟩ } (u16 ch.id ++ u8 k.val ++ u16 ch.declared)
  | _ => refuse .outOfRange s

/-- END-DRAW at the draw record (R119). -/
def endDrawOwner (s : State) : Owned :=
  match s.draw with
  | some d =>
    if d.ending then refuse .wrongState s
    else
      match s.charge d.slot with
      | none => none
      | some ch =>
        took { s with draw := some { d with ending := true } } (u16 ch.id ++ countField s.fifo.length)
  | none => refuse .wrongState s

/-- The condition of the draw end (R121): the draw is ENDING and the FIFO holds none of the drawn charge's records. -/
def State.drawEndDue (s : State) : Bool :=
  match s.draw with
  | some d => d.ending && s.fifo.all fun b => b.slot != d.slot
  | none => false

/-- The charge at the draw end (R16, R121 step 2). -/
def Charge.planed (ch : Charge) : Charge :=
  let t := { ch with state := .planed }
  match ch.remaining with
  | some r => if 0 < r then t.mark .countShort else t
  | none => t

/-- The draw end of draw `d` (R121). -/
def State.endDraw (d : Draw) (s : State) : Option State :=
  (s.closeOpen .drawEnd).map fun t =>
    ({ t.modCharge d.slot Charge.planed with draw := none }.raise .draw).checkBlocked

/-- DRAW_END (R121). -/
def execDrawEnd (s : State) : Host.Outcome State Fault Refusal :=
  whilePowered s <|
    match s.draw with
    | some d => if s.drawEndDue then orBroken (s.endDraw d) else .next s
    | none => .next s

/-! ### The pack plan -/

/-- The plan a PACK-PLAN carries, checked in the order of R122; a failure is the index of the failing field (R123). -/
def checkPlan (thickness width target minLength nominal idle silence : Nat) : Except Nat PackPlan :=
  if !(10 ≤ thickness && thickness ≤ 100) then .error 0
  else if !(50 ≤ width && width ≤ 300) then .error 1
  else if !(10 ≤ target && target ≤ 500) then .error 2
  else if !(60 ≤ minLength && minLength ≤ 600) then .error 3
  else if !(60 ≤ nominal && nominal ≤ 900) then .error 4
  else
    match boolOfCode idle with
    | none => .error 5
    | some b =>
      if !(10 ≤ silence && silence ≤ 3600) then .error 6
      else .ok ⟨thickness, width, target, minLength, nominal, b, silence⟩

/-- PACK-PLAN at the receiver (R123). -/
def packPlanOwner (params : List Byte) (s : State) : Owned :=
  match params with
  | th :: w1 :: w0 :: t1 :: t0 :: m1 :: m0 :: n1 :: n0 :: idle :: s1 :: s0 :: _ =>
    match checkPlan th.toNat (nat16 w1 w0) (nat16 t1 t0) (nat16 m1 m0) (nat16 n1 n0) idle.toNat (nat16 s1 s0) with
    | .error index => refuseWith .outOfRange (u8 index) s
    | .ok plan => took { s with plan := plan } []
  | _ => refuse .outOfRange s

/-! ### CLOSE-PACK and line silence -/

/-- CLOSE-PACK at the tally (R132). -/
def closePackOwner (s : State) : Owned :=
  match s.openPack with
  | none => refuse .noPack s
  | some (k, p) =>
    (s.closePack .closePack k p).map fun t => (t.checkBlocked, ⟨.ok, u16 p.number ++ u16 p.boards⟩)

/-- Line-silence expiry (R133): the countdown becomes absent; with a pack OPEN the IDLE notice is raised, and the pack closes
when close-on-idle was loaded. -/
def State.expireSilence (x : Silence) (s : State) : Option State :=
  let t := { s with silence := none }
  match t.openPack with
  | none => some t
  | some (k, p) =>
    let u := t.raise .idle
    if x.closeOnIdle then (u.closePack .idle k p).map State.checkBlocked else some u

/-- LINE_SILENCE_EXPIRY (R133): taken when the countdown is at 0. -/
def execLineSilenceExpiry (s : State) : Host.Outcome State Fault Refusal :=
  whilePowered s <|
    match s.silence with
    | some x => if x.seconds = 0 then orBroken (s.expireSilence x) else .next s
    | none => .next s

/-! ### The meanings -/

/-- DRAW (R118). -/
def execDraw (p : Port) (tag : Byte) (params : List Byte) (s : State) : Host.Outcome State Fault Refusal :=
  request .draw p tag (drawOwner params) s

/-- END-DRAW (R119): it carries no parameter. -/
def execEndDraw (p : Port) (tag : Byte) (_params : List Byte) (s : State) : Host.Outcome State Fault Refusal :=
  request .endDraw p tag endDrawOwner s

/-- CLOSE-PACK (R132): it carries no parameter. -/
def execClosePack (p : Port) (tag : Byte) (_params : List Byte) (s : State) : Host.Outcome State Fault Refusal :=
  request .closePack p tag closePackOwner s

/-- PACK-PLAN (R123). -/
def execPackPlan (p : Port) (tag : Byte) (params : List Byte) (s : State) : Host.Outcome State Fault Refusal :=
  request .packPlan p tag (packPlanOwner params) s

end Sys2Proof.Machine
end

