-- ==== Sys2Proof/Machine/Board.lean ====
section
/-! DEFINITION. The board link receiver (chapter 6): its frames, the grading of a board, the Board FIFO and LINE_READY. -/

namespace Sys2Proof.Machine

/-- The fields of a board frame (R104); an MC of `none` is NONE, a length of 0 is unknown. -/
structure Board where
  sequence : Byte
  mc : Option Nat
  length : Nat
  deriving DecidableEq, Repr

/-- The MC field: FFFFh is NONE, any other value above 600 is malformed (R103, R175). -/
def boardMc (hi lo : Byte) : Option (Option Nat) :=
  let n := nat16 hi lo
  if n = 0xFFFF then some none else if n ≤ 600 then some (some n) else none

/-- The length field: a value of 1..59 or above 900 is malformed (R103, R175). -/
def boardLength (hi lo : Byte) : Option Nat :=
  let n := nat16 hi lo
  if n = 0 || (60 ≤ n && n ≤ 900) then some n else none

/-- The board a frame carries; none when it fails the check or is malformed (R103, R175). -/
def boardOf (sequence mcHigh mcLow lengthHigh lengthLow checkByte : Byte) : Option Board :=
  if sumsToZero [sequence, mcHigh, mcLow, lengthHigh, lengthLow, checkByte] then
    match boardMc mcHigh mcLow, boardLength lengthHigh lengthLow with
    | some mc, some length => some ⟨sequence, mc, length⟩
    | _, _ => none
  else none

/-- The sequence gap of R107: the unseen boards g, and whether the frame is a resync. -/
def sequenceGap (last : Option Byte) (sequence : Byte) : Nat × Bool :=
  match last with
  | none => (0, true)
  | some l =>
    let g := (sequence - l - 1#8).toNat
    if g ≤ 15 then (g, false) else (0, true)

/-- The counts step (R109) on the drawn charge, whose remaining is `rem`, for a gap of `g`. -/
def Charge.countBoard (g rem : Nat) (ch : Charge) : Charge :=
  let t := { ch with graded := addCount ch.graded (g + 1), unseen := addCount ch.unseen g }
  if g + 1 ≤ rem then { t with remaining := some (rem - (g + 1)) }
  else { t with remaining := some 0, overrun := addCount ch.overrun (g + 1 - rem) }.mark .countOver

/-- The disposition of a board (R110). -/
def dispose (ch : Charge) (plan : PackPlan) (held : Nat) (b : Board) : Disposition × DispositionCause :=
  if b.length ≠ 0 ∧ b.length < plan.minLength then (.reject, .short)
  else
    match b.mc with
    | some m =>
      if ch.targetMc + ch.wetMargin < m then (.wet, .none)
      else if Config.fifoSize ≤ held then (.reject, .full)
      else (.pack, .none)
    | none => if Config.fifoSize ≤ held then (.reject, .full) else (.pack, .none)

/-- The count a disposition adds to the charge (R5, R110). -/
def Charge.countDisposition (d : Disposition) (ch : Charge) : Charge :=
  match d with
  | .pack => ch
  | .wet => { ch with wet := addCount ch.wet 1 }
  | .reject => { ch with rejected := addCount ch.rejected 1 }

/-- The record a packed board places in the FIFO (R110, R112). -/
def Board.record (slot : Fin 8) (plan : PackPlan) (b : Board) : BoardRecord :=
  ⟨slot, b.mc, if b.length = 0 then plan.nominalLength else b.length⟩

/-- A board record enters the FIFO (R112, R113). -/
def State.placeBoard (r : BoardRecord) (s : State) : State :=
  { s with fifo := s.fifo ++ [r], lineReady := readyAfterEntering (s.fifo.length + 1) s.lineReady }

/-- The closing of a grading operation (R111): last sequence and last reply, the reply sent, the line-silence countdown. -/
def State.closeGrading (r : Reply) (s : State) : State :=
  { s with
    lastSeq := some r.sequence
    lastReply := some r
    boardOut := some r
    silence := some ⟨s.plan.silence, 0, s.plan.silence, s.plan.closeOnIdle⟩ }

/-- Counts, disposition and auto-end of a board of an ACTIVE draw (R109, R110): the state and the verdict. `ch` is the drawn
charge and `rem` its remaining. -/
def State.countAndDispose (d : Draw) (ch : Charge) (rem g : Nat) (b : Board) (s : State) :
    State × Disposition × DispositionCause :=
  let verdict := dispose ch s.plan s.fifo.length b
  let t := s.modCharge d.slot fun ch => (ch.countBoard g rem).countDisposition verdict.1
  let t := if verdict.1 = .pack then t.placeBoard (b.record d.slot s.plan) else t
  let t := if d.autoEnd ∧ rem ≠ 0 ∧ rem ≤ g + 1 then { t with draw := some { d with ending := true } } else t
  (t, verdict)

/-- A new frame (R107 to R111): the gap and its SEQ notice, the draw check, the counts and disposition, the closing. None when
the ACTIVE draw's charge, or its remaining, is missing. -/
def State.gradeNew (b : Board) (s : State) : Option State :=
  let gap := sequenceGap s.lastSeq b.sequence
  let t := if gap.2 then s.raise .seq else s
  match t.draw with
  | none => some (t.closeGrading ⟨b.sequence, .reject, .noCharge⟩)
  | some d =>
    if d.ending then some (t.closeGrading ⟨b.sequence, .reject, .noCharge⟩)
    else
      match t.charge d.slot with
      | none => none
      | some ch =>
        match ch.remaining with
        | none => none
        | some rem =>
          let r := t.countAndDispose d ch rem gap.1 b
          some (r.1.closeGrading ⟨b.sequence, r.2.1, r.2.2⟩).checkBlocked

/-- A grading operation (R106): a repeat is answered with last reply and changes nothing. -/
def State.grade (b : Board) (s : State) : Option State :=
  if s.lastSeq = some b.sequence then some { s with boardOut := s.lastReply } else s.gradeNew b

/-- BOARD_FRAME (R103, R106): discarded on a failed check or a malformed field, else one grading operation. -/
def execBoardFrame (sequence mcHigh mcLow lengthHigh lengthLow checkByte : Byte) (s : State) :
    Host.Outcome State Fault Refusal :=
  if s.linkTakes s.boardRx then
    match boardOf sequence mcHigh mcLow lengthHigh lengthLow checkByte with
    | some b => orBroken ({ s with boardRx := .hunt }.grade b)
    | none => .next { s with boardRx := .hunt }
  else .next s

/-- BOARD_START_BYTE (R103): in FRAME the byte is one of the frame's. -/
def execBoardStartByte (s : State) : Host.Outcome State Fault Refusal :=
  whilePowered s (.next (if s.boardRx == .hunt then { s with boardRx := .frame 0 } else s))

/-- BOARD_FRAME_WINDOW_EXPIRY (R103). -/
def execBoardFrameWindowExpiry (s : State) : Host.Outcome State Fault Refusal :=
  whilePowered s (.next (if s.boardRx.windowOver then { s with boardRx := .hunt } else s))

end Sys2Proof.Machine
end

