-- ==== Sys2Proof/Machine/Chambers.lean ====
section
/-! DEFINITION. The chamber sequencers (chapter 4): the requests LOAD, START, ABORT, RELEASE, the run commands and CHAMBER-SET,
the setpoint arithmetic, and the entry to COOLING and to COMPLETE. -/

namespace Sys2Proof.Machine

/-! ### Setpoints and steps -/

/-- The wet-bulb setpoint: the dry-bulb setpoint less the depression, and 0.0 °C where that falls below 0 (R81). -/
def wetBulb (dry depression : Nat) : Nat := dry - depression

/-- A step that qualifies as the entry step against a wettest-half mean (R66). -/
def Step.qualifies (wettestHalf : Nat) (st : Step) : Bool :=
  st.phase != .dry || st.changeAt == 0 || st.changeAt < wettestHalf

/-- The entry step of a run (R66): step 0 on INVALID statistics, and the last step when none qualifies. -/
def entryStep (steps : List Step) (stats : Stats) : Nat :=
  match stats.values with
  | none => 0
  | some v =>
    match steps.findIdx? (Step.qualifies v.wettestHalf) with
    | some t => t
    | none => steps.length - 1

/-- A temperature clamped to 20.0..120.0 °C (R67). -/
def clampSetpoint (t : Nat) : Nat := max 200 (min 1200 t)

/-- The dry-bulb setpoint at START (R67). -/
def startSetpoint (d : DryBulb) (st : Step) : Nat :=
  match d.trust with
  | .good t => clampSetpoint t
  | .new | .fault _ | .stale _ => st.dryBulb

/-- The ramp of R80: setpoint and accumulator after an instant of `loaded` seconds at `rate` toward `target`. -/
def rampMove (rate loaded target setpoint acc : Nat) : Nat × Nat :=
  let total := acc + rate * loaded
  let w := total / 3600
  let rest := total - w * 3600
  if rate = 0 ∨ setpoint = target then (target, 0)
  else if setpoint < target then (if target ≤ setpoint + w then (target, 0) else (setpoint + w, rest))
  else if setpoint ≤ target + w then (target, 0)
  else (setpoint - w, rest)

/-- The statistic a basis names (R79). -/
def Basis.statistic (v : StatValues) : Basis → Nat
  | .wettestHalf => v.wettestHalf
  | .mean => v.mean
  | .driest => v.driest

/-- The advance test of R79, on the dwell already grown. -/
def Step.advances (st : Step) (dwell : Nat) (stats : Stats) : Bool :=
  st.minDwell * 60 ≤ dwell &&
    (st.changeAt == 0 ||
      match stats.values with
      | some v => st.basis.statistic v ≤ st.changeAt
      | none => false)

/-- The first step after index `t` whose phase is later than `phase` (R74), with its index. -/
def laterPhase (phase : Phase) (t : Nat) (steps : List Step) : Option (Nat × Step) :=
  ((steps.zipIdx).find? fun (st, i) => t < i && phase.code < st.phase.code).map fun (st, i) => (i, st)

/-! ### Statistics, cooling and completion -/

/-- One computation of statistics for a chamber: its probe records, and the copy in the chamber record (R50, R76). -/
def State.computeStats (c : ChamberNo) (s : State) : State :=
  let b := (s.bank c).computed (s.chamber c).settings
  (s.setBank c b).modChamber c fun x => { x with latest := b.stats }

/-- A door hold that ends without a door close (R93): open time and limit notice become absent. -/
def State.dropHold (c : ChamberNo) (s : State) : State := s.setMonitor c { s.monitor c with hold := none }

/-- The chamber record in COOLING (R83, points 2 to 5). -/
def Chamber.cooled (coolTemp : Nat) (x : Chamber) : Chamber :=
  { x with
    state := .cooling, returnState := none, dwell := 0, drySetpoint := coolTemp, rampAcc := 0, wetSetpoint := 0,
    queue := [] }

/-- The changes of an entry to COOLING before its events (R83, points 1 to 5; R93). -/
def State.intoCooling (c : ChamberNo) (coolTemp : Nat) (s : State) : State :=
  ((s.modBound c fun ch => { ch with finalStats := some (s.chamber c).latest }).modChamber c
    (Chamber.cooled coolTemp)).dropHold c

/-- The chamber becomes COMPLETE (R15, R84): the charge DRIED with its end time, DONE raised, COMPLETE offered, the countdown
absent. -/
def State.complete (c : ChamberNo) (s : State) : State :=
  let t := s.modBound c fun ch => { ch with state := .dried, endTime := some s.clock.seconds }
  ((t.modChamber c fun x => { x with state := .complete, countdown := none }).raise .done).offer c .complete

/-- The event, the notice and, for a cooling time of 0, the completion of an entry to COOLING (R83 point 6, R84). -/
def State.coolingEvents (c : ChamberNo) (cause : CoolingCause) (coolTime : Nat) (s : State) : State :=
  let t := s.offer c (.cooling cause)
  let t := if cause = .abort then t else t.raise .step
  if coolTime = 0 then t.complete c else t

/-- A step change (R78) to step `t`: the setpoints, dwell and accumulator, and the STEP notice. -/
def State.stepChange (c : ChamberNo) (t : Nat) (st : Step) (s : State) : State :=
  (s.modChamber c fun x =>
    { x with stepIndex := some t, dwell := 0, rampAcc := 0, wetSetpoint := wetBulb x.drySetpoint st.depression }).raise .step

/-- The countdown loaded with the interval as it stands (R63). -/
def Chamber.loadCountdown (x : Chamber) : Chamber :=
  { x with countdown := some ⟨x.settings.interval, 0, x.settings.interval⟩ }

/-! ### LOAD -/

/-- The chamber record after LOAD (R64). -/
def Chamber.bindTo (k : Fin 8) (x : Chamber) : Chamber :=
  { x with
    state := .loaded, chargeSlot := some k, stepIndex := none, dwell := 0, drySetpoint := 200, rampAcc := 0,
    wetSetpoint := 0, latest := ⟨0, none⟩, invalidCount := 0, queue := [] }

/-- A ring emptied, its sequence counter kept (R99). -/
def EventRing.emptied (r : EventRing) : EventRing := { r with entries := [], overflow := false }

/-- LOAD taken (R12, R52, R64, R99). -/
def State.bind (c : ChamberNo) (k : Fin 8) (s : State) : State :=
  let t := s.modCharge k fun ch => { ch with state := .loaded, chamber := some c }
  ((t.modChamber c (Chamber.bindTo k)).setBank c (s.bank c).loaded).setRing c (s.eventRing c).emptied

/-- LOAD at the chamber sequencer (R64). -/
def loadOwner (params : List Byte) (s : State) : Owned :=
  match params with
  | b :: hi :: lo :: _ =>
    withChamber b (fun c s =>
      if (s.chamber c).state != .empty then refuse .wrongState s
      else
        match s.chargeById (nat16 hi lo) with
        | none => refuse .noCharge s
        | some (k, ch) =>
          if ch.state != .assigned then refuse .noCharge s
          else took (s.bind c k) (u8 c.val ++ u16 ch.id ++ u8 k.val)) s
  | _ => refuse .outOfRange s

/-! ### START -/

/-- START taken (R13, R65 to R67): `s` is the state after the computation of statistics, `t` the entry step, `st` that step. -/
def State.beginRun (c : ChamberNo) (origin : Port) (t : Nat) (st : Step) (s : State) : State :=
  let stats := (s.chamber c).latest
  let dry := startSetpoint (s.bank c).dryBulb st
  let s := s.modBound c fun ch =>
    let ch := { ch with state := .inKiln, startTime := some s.clock.seconds, lastStats := some stats }
    if stats.values.isNone then ch.mark .entryBlind else ch
  let s := s.modChamber c fun x =>
    { x.loadCountdown with
      state := .running, stepIndex := some t, drySetpoint := dry, wetSetpoint := wetBulb dry st.depression, dwell := 0,
      rampAcc := 0, invalidCount := 0 }
  s.offer c (.start origin)

/-- START at the chamber sequencer (R65). -/
def startOwner (origin : Port) (params : List Byte) (s : State) : Owned :=
  match params with
  | b :: _ =>
    withChamber b (fun c s =>
      if (s.chamber c).state != .loaded then refuse .wrongState s
      else if (s.monitor c).door == .opened then refuse .doorOpen s
      else
        match (s.bound c).bind fun (_, ch) => s.scheduleOf ch with
        | none => none
        | some sch =>
          let u := s.computeStats c
          let t := entryStep sch.steps (u.chamber c).latest
          match sch.steps[t]? with
          | none => none
          | some st =>
            let v := u.beginRun c origin t st
            took v (u8 t ++ u8 st.phase.code ++ u16 (v.chamber c).drySetpoint ++ u16 (v.chamber c).wetSetpoint)) s
  | _ => refuse .outOfRange s

/-! ### ABORT and RELEASE -/

/-- ABORT taken (R68). -/
def State.abortRun (c : ChamberNo) (sch : Schedule) (s : State) : State :=
  ((s.modBound c (Charge.mark .aborted)).intoCooling c sch.coolTemp).coolingEvents c .abort sch.coolTime

/-- ABORT at the chamber sequencer (R68). -/
def abortOwner (params : List Byte) (s : State) : Owned :=
  match params with
  | b :: _ =>
    withChamber b (fun c s =>
      if !(s.chamber c).state.inRun then refuse .wrongState s
      else
        match (s.bound c).bind fun (_, ch) => s.scheduleOf ch with
        | none => none
        | some sch =>
          let t := s.abortRun c sch
          took t (u8 (t.chamber c).state.code)) s
  | _ => refuse .outOfRange s

/-- RELEASE taken (R12, R15, R69), the charge entering `st`. -/
def State.unbind (c : ChamberNo) (k : Fin 8) (st : ChargeState) (s : State) : State :=
  (s.modCharge k fun ch => { ch with state := st, chamber := none }).modChamber c fun x =>
    { x with state := .empty, chargeSlot := none, stepIndex := none }

/-- The state a charge enters at RELEASE (R12, R15): none where RELEASE is refused. -/
def ChamberState.releasesTo : ChamberState → Option ChargeState
  | .loaded => some .assigned
  | .complete => some .released
  | .empty | .running | .held | .doorHold | .cooling => none

/-- RELEASE at the chamber sequencer (R69). -/
def releaseOwner (params : List Byte) (s : State) : Owned :=
  match params with
  | b :: _ =>
    withChamber b (fun c s =>
      match (s.chamber c).state.releasesTo with
      | none => refuse .wrongState s
      | some st =>
        match s.bound c with
        | none => none
        | some (k, ch) => took (s.unbind c k st) (u16 ch.id ++ u8 st.code)) s
  | _ => refuse .outOfRange s

/-! ### The command queue -/

/-- A run command joins the queue of its chamber (R70). -/
def queueOwner (cmd : RunCommand) (params : List Byte) (s : State) : Owned :=
  match params with
  | b :: _ =>
    withChamber b (fun c s =>
      let x := s.chamber c
      if !x.state.inRun then refuse .wrongState s
      else if Config.queueSize ≤ x.queue.length then refuse .queueFull s
      else some (s.setChamber c { x with queue := x.queue ++ [cmd] }, ⟨.queued, u8 (x.queue.length + 1)⟩)) s
  | _ => refuse .outOfRange s

/-! ### CHAMBER-SET -/

/-- The settings a CHAMBER-SET carries, checked in the order of R59; a failure is the index of the failing setting (R85). -/
def checkSettings (interval minProbes jump doorLimit debounce mode enables policy : Nat) : Except Nat Settings :=
  if !(60 ≤ interval && interval ≤ 3600) then .error 0
  else if !(1 ≤ minProbes && minProbes ≤ 16) then .error 1
  else if !(10 ≤ jump && jump ≤ 200) then .error 2
  else if !(1 ≤ doorLimit && doorLimit ≤ 240) then .error 3
  else
    match debounceOfCode debounce with
    | none => .error 4
    | some db =>
      match ringModeOfCode mode with
      | none => .error 5
      | some md =>
        if 32 ≤ enables then .error 6
        else
          match ringPolicyOfCode policy with
          | none => .error 7
          | some pol => .ok ⟨interval, minProbes, jump, doorLimit, db, md, BitVec.ofNat 5 enables, pol⟩

/-- CHAMBER-SET at the chamber sequencer (R85). -/
def chamberSetOwner (params : List Byte) (s : State) : Owned :=
  match params with
  | b :: i1 :: i0 :: mp :: j1 :: j0 :: d1 :: d0 :: db :: md :: en :: pol :: _ =>
    withChamber b (fun c s =>
      match checkSettings (nat16 i1 i0) mp.toNat (nat16 j1 j0) (nat16 d1 d0) db.toNat md.toNat en.toNat pol.toNat with
      | .error index => refuseWith .outOfRange (u8 index) s
      | .ok st => took (s.modChamber c fun x => { x with settings := st }) (u8 c.val)) s
  | _ => refuse .outOfRange s

/-! ### The meanings -/

/-- LOAD (R64). -/
def execLoad (p : Port) (tag : Byte) (params : List Byte) (s : State) : Host.Outcome State Fault Refusal :=
  request .load p tag (loadOwner params) s

/-- START (R65). -/
def execStart (p : Port) (tag : Byte) (params : List Byte) (s : State) : Host.Outcome State Fault Refusal :=
  request .start p tag (startOwner p params) s

/-- HOLD (R70, R71): queued; it is carried out at command service. -/
def execHold (p : Port) (tag : Byte) (params : List Byte) (s : State) : Host.Outcome State Fault Refusal :=
  request .hold p tag (queueOwner .hold params) s

/-- RESUME (R70, R72): queued; it is carried out at command service. -/
def execResume (p : Port) (tag : Byte) (params : List Byte) (s : State) : Host.Outcome State Fault Refusal :=
  request .resume p tag (queueOwner .resume params) s

/-- STEP (R70, R73): queued; it is carried out at command service. -/
def execStep (p : Port) (tag : Byte) (params : List Byte) (s : State) : Host.Outcome State Fault Refusal :=
  request .step p tag (queueOwner .step params) s

/-- SKIP-PHASE (R70, R74): queued; it is carried out at command service. -/
def execSkipPhase (p : Port) (tag : Byte) (params : List Byte) (s : State) : Host.Outcome State Fault Refusal :=
  request .skipPhase p tag (queueOwner .skipPhase params) s

/-- ABORT (R68). -/
def execAbort (p : Port) (tag : Byte) (params : List Byte) (s : State) : Host.Outcome State Fault Refusal :=
  request .abort p tag (abortOwner params) s

/-- RELEASE (R69). -/
def execRelease (p : Port) (tag : Byte) (params : List Byte) (s : State) : Host.Outcome State Fault Refusal :=
  request .release p tag (releaseOwner params) s

/-- CHAMBER-SET (R85). -/
def execChamberSet (p : Port) (tag : Byte) (params : List Byte) (s : State) : Host.Outcome State Fault Refusal :=
  request .chamberSet p tag (chamberSetOwner params) s

end Sys2Proof.Machine
end

