-- ==== Sys2Proof/Machine/Charges.lean ====
section
/-! DEFINITION. The charge table (chapter 1): NEW-CHARGE and DELETE-CHARGE. -/

namespace Sys2Proof.Machine

/-- The assigned ID (R2): the first candidate from the counter that is not present. A table with a FREE slot holds at most
seven records, so eight candidates are enough. -/
def State.assignedId (s : State) : Nat := firstAbsent s.idPresent 8 s.chargeCounter

/-- The lowest-numbered FREE slot (R1). -/
def State.freeChargeSlot (s : State) : Option (Fin 8) := allChargeSlots.find? fun k => (s.charge k).isNone

/-- The parent test of R10 for a nonzero parent. -/
def State.parentPasses (s : State) (parent : Nat) : Bool :=
  match s.chargeById parent with
  | some (_, ch) => (ch.state == .onLine || ch.state == .planed) && 1 ≤ ch.wet
  | none => false

/-- The record NEW-CHARGE writes (R3 to R6, R9). -/
def Charge.created (id : Nat) (species : Fin 8) (schedule : Fin 16) (sch : Schedule) (declared parent : Nat) : Charge where
  id := id
  species := species
  schedule := schedule
  targetMc := sch.targetMc
  wetMargin := sch.wetMargin
  declared := declared
  parent := if parent = 0 then none else some parent
  state := .assigned
  chamber := none
  startTime := none
  endTime := none
  lastStats := none
  finalStats := none
  doorOpenings := 0
  doorSeconds := 0
  graded := 0
  wet := 0
  rejected := 0
  unseen := 0
  remaining := none
  overrun := 0
  packed := 0
  unmeasured := 0
  firstPack := none
  lastPack := none
  packsClosed := 0
  marks := 0

/-- The tests of R9 from the second on, and the taking of NEW-CHARGE. -/
def createCharge (species : Fin 8) (schedule : Fin 16) (declared parent : Nat) (s : State) : Owned :=
  match s.freeChargeSlot with
  | none => refuse .tableFull s
  | some k =>
    match s.schedules[schedule] with
    | none => refuseWith .invalid (u8 schedule.val ++ u8 0) s
    | some sch =>
      match s.species[species] with
      | none => refuseWith .invalid (u8 species.val ++ u8 1) s
      | some _ =>
        if parent ≠ 0 && !s.parentPasses parent then refuse .noCharge s
        else
          let id := s.assignedId
          let t := s.setCharge k (some (Charge.created id species schedule sch declared parent))
          took { t with chargeCounter := nextNumber id } (u16 id ++ u8 k.val)

/-- NEW-CHARGE at the charge table (R9). -/
def newChargeOwner (params : List Byte) (s : State) : Owned :=
  match params with
  | sp :: sc :: d1 :: d0 :: p1 :: p0 :: _ =>
    match finOf 8 sp, finOf 16 sc with
    | some species, some schedule =>
      let declared := nat16 d1 d0
      if 1 ≤ declared && declared ≤ 20000 then createCharge species schedule declared (nat16 p1 p0) s
      else refuse .outOfRange s
    | _, _ => refuse .outOfRange s
  | _ => refuse .outOfRange s

/-- DELETE-CHARGE at the charge table (R11). -/
def deleteChargeOwner (params : List Byte) (s : State) : Owned :=
  match params with
  | i1 :: i0 :: _ =>
    match s.chargeById (nat16 i1 i0) with
    | none => refuse .noCharge s
    | some (k, ch) =>
      if ch.state == .assigned || ch.state == .planed then took (s.setCharge k none) (u8 k.val)
      else refuse .inUse s
  | _ => refuse .outOfRange s

/-- NEW-CHARGE (R9). -/
def execNewCharge (p : Port) (tag : Byte) (params : List Byte) (s : State) : Host.Outcome State Fault Refusal :=
  request .newCharge p tag (newChargeOwner params) s

/-- DELETE-CHARGE (R11). -/
def execDeleteCharge (p : Port) (tag : Byte) (params : List Byte) (s : State) : Host.Outcome State Fault Refusal :=
  request .deleteCharge p tag (deleteChargeOwner params) s

end Sys2Proof.Machine
end

