-- ==== Sys2Proof/Machine/Doors.lean ====
section
/-! DEFINITION. The door monitors (chapter 5): sampling and debounce, accepted openings and closings, the door limit, and MARK,
the request that writes a chamber's event ring. -/

namespace Sys2Proof.Machine

/-- The door limit in sixty-fourths: the limit in minutes × 3840 (R91). -/
def Settings.limitTicks (st : Settings) : Nat := st.doorLimit * 3840

/-- The door hold an accepted opening begins in a RUNNING or HELD chamber (R90). -/
def State.beginHold (c : ChamberNo) (ret : ReturnState) (s : State) : State :=
  let t := s.modChamber c fun x => { x with state := .doorHold, returnState := some ret }
  let t := t.modBound c fun ch => { ch with doorOpenings := satAdd Config.maxShort ch.doorOpenings 1 }
  (t.setMonitor c { t.monitor c with hold := some ⟨0, false⟩ }).offer c (.doorOpen true)

/-- An accepted opening (R90), the door state already set. -/
def State.opened (c : ChamberNo) (s : State) : State :=
  match (s.chamber c).state with
  | .running => s.beginHold c .running
  | .held => s.beginHold c .held
  | .empty | .loaded | .doorHold | .cooling | .complete => s.offer c (.doorOpen false)

/-- The end of a door hold at an accepted closing (R92): `h` is the hold, `ret` the state to return to. -/
def State.endHold (c : ChamberNo) (h : DoorHold) (ret : ChamberState) (s : State) : State :=
  let secs := h.openTime / 64
  let t := s.modBound c fun ch => { ch with doorSeconds := satAdd Config.maxCount ch.doorSeconds secs }
  let t := t.setMonitor c { t.monitor c with hold := none }
  if (s.chamber c).settings.limitTicks < h.openTime then
    let t := t.modChamber c fun x => { x with state := .held, returnState := none }
    let t := (t.modBound c (Charge.mark .doorLong)).raise .held
    (t.offer c (.doorClose secs .long)).offer c (.autoHold .doorLong)
  else
    (t.modChamber c fun x => { x with state := ret, returnState := none }).offer c (.doorClose secs .returned)

/-- The chamber state a return state names (R92). -/
def ReturnState.toState : ReturnState → ChamberState
  | .running => .running
  | .held => .held

/-- An accepted closing (R92), the door state already set. In DOOR_HOLD the hold and the return state are present (R58, R88). -/
def State.shut (c : ChamberNo) (s : State) : State :=
  match (s.chamber c).state, (s.monitor c).hold, (s.chamber c).returnState with
  | .doorHold, some h, some ret => s.endHold c h ret.toState
  | _, _, _ => s.offer c (.doorClose 0 .stamp)

/-- A door change accepted (R89, R90, R92). -/
def State.acceptDoor (c : ChamberNo) (level : DoorLevel) (s : State) : State :=
  let t := s.setMonitor c { s.monitor c with door := level, debounce := none }
  match level with
  | .opened => t.opened c
  | .closed => t.shut c

/-- A sample of the DOOR input (R89). -/
def State.sampleDoor (c : ChamberNo) (level : DoorLevel) (s : State) : State :=
  let d := s.monitor c
  if level = d.door then s.setMonitor c { d with input := level, debounce := none }
  else
    match d.debounce with
    | some _ => s.setMonitor c { d with input := level }
    | none =>
      let period := (s.chamber c).settings.debounce.period
      if period = 0 then (s.setMonitor c { d with input := level }).acceptDoor c level
      else s.setMonitor c { d with input := level, debounce := some ⟨0, period⟩ }

/-- DOOR_INPUT_CHANGE (R89). -/
def execDoorInputChange (c : ChamberNo) (level : DoorLevel) (s : State) : Host.Outcome State Fault Refusal :=
  whilePowered s (.next (s.sampleDoor c level))

/-- A pending debounce has reached its period with the input still at the new level (R89). -/
def DoorMonitor.debounceOver (d : DoorMonitor) : Bool :=
  match d.debounce with
  | some b => b.period ≤ b.elapsed && d.input != d.door
  | none => false

/-- DOOR_DEBOUNCE_EXPIRY (R89). -/
def execDoorDebounceExpiry (c : ChamberNo) (s : State) : Host.Outcome State Fault Refusal :=
  whilePowered s (.next (if (s.monitor c).debounceOver then s.acceptDoor c (s.monitor c).input else s))

/-- A door hold whose open time has passed the limit and which has not raised the DOOR notice (R91). -/
def State.limitPassed (s : State) (c : ChamberNo) : Bool :=
  match (s.monitor c).hold with
  | some h => (s.chamber c).state == .doorHold && (s.chamber c).settings.limitTicks < h.openTime && !h.limitNotice
  | none => false

/-- DOOR_LIMIT_PASSED (R91): the DOOR notice, once per hold. -/
def execDoorLimitPassed (c : ChamberNo) (s : State) : Host.Outcome State Fault Refusal :=
  whilePowered s <| .next <|
    if s.limitPassed c then
      let d := s.monitor c
      (s.setMonitor c { d with hold := d.hold.map fun h => { h with limitNotice := true } }).raise .door
    else s

/-- MARK at a chamber's ring (R101): the event is offered; the answer says what became of it. -/
def markOwner (origin : Port) (params : List Byte) (s : State) : Owned :=
  match params with
  | b :: hi :: lo :: _ =>
    withChamber b (fun c s =>
      let ev := Event.mark (nat16 hi lo) origin
      let t := s.offer c ev
      match (s.eventRing c).verdict (s.chamber c).settings ev with
      | .entry seq => took t (s.stamp.field ++ u16 seq)
      | .disabled => took t s.stamp.field
      | .full => some (t, ⟨.full, s.stamp.field⟩)) s
  | _ => refuse .outOfRange s

/-- MARK (R101). -/
def execMark (p : Port) (tag : Byte) (params : List Byte) (s : State) : Host.Outcome State Fault Refusal :=
  request .mark p tag (markOwner p params) s

end Sys2Proof.Machine
end

