-- ==== Sys2Proof/Machine/Clock.lean ====
section
/-! DEFINITION. The mill clock, the backup and start-up (chapter 10): SET-TIME, the wrap of mill time, VBAT, loss and return of
main power, and the two resets of the RESET input. -/

namespace Sys2Proof.Machine

/-! ### The mill clock -/

/-- SET-TIME at the mill clock (R165): the answer carries the mill time before and after. -/
def setTimeOwner (params : List Byte) (s : State) : Owned :=
  match params with
  | b3 :: b2 :: b1 :: b0 :: _ =>
    let t := { s with clock := ⟨nat32 b3 b2 b1 b0, 0, false⟩ }
    took t (s.stamp.field ++ t.stamp.field)
  | _ => refuse .outOfRange s

/-- SET-TIME (R165). -/
def execSetTime (p : Port) (tag : Byte) (params : List Byte) (s : State) : Host.Outcome State Fault Refusal :=
  request .setTime p tag (setTimeOwner params) s

/-- Mill time stands at its last sixty-fourth (R164). -/
def MillClock.atEnd (k : MillClock) : Bool := Config.maxCount ≤ k.seconds && 63 ≤ k.sixtyFourths

/-- MILL_TIME_WRAP (R164, R166): it happens whether main power is on or off. -/
def execMillTimeWrap (s : State) : Host.Outcome State Fault Refusal :=
  .next <|
    if s.clock.atEnd then
      let t := { s with clock := ⟨0, 0, true⟩ }
      if s.clock.lost then t else t.raise .clock
    else s

/-! ### VBAT and main power -/

/-- VBAT_RANGE_CHANGE (R168): with main power on the backup-valid flag follows VBAT; with it off VBAT out of range clears the
hold marker. -/
def execVbatRangeChange (inRange : Bool) (s : State) : Host.Outcome State Fault Refusal :=
  .next <|
    if s.power.main then { s with power := { s.power with vbatInRange := inRange, backupValid := inRange } }
    else { s with power := { s.power with vbatInRange := inRange, holdMarker := s.power.holdMarker && inRange } }

/-- A controller whose partial frame is lost and whose response is cut short. -/
def PortState.hunting (x : PortState) : PortState := { x with rx := .hunt }

/-- Receive states in HUNT, partial frames and replies being sent lost (R168, R171). -/
def State.linksLost (s : State) : State :=
  { s with
    ports := ⟨s.ports.kiln.hunting, s.ports.line.hunting, s.ports.yard.hunting⟩
    probeRx := .hunt
    boardRx := .hunt
    boardOut := none }

/-- MAIN_POWER_LOSS (R168): the hold marker is cleared when VBAT lies outside its range at that moment. -/
def execMainPowerLoss (s : State) : Host.Outcome State Fault Refusal :=
  whilePowered s (.next
    { s.linksLost with power := { s.power with main := false, holdMarker := s.power.vbatInRange } })

/-! ### Port and link state at resets and start-ups (R116, R163, R171) -/

/-- A port controller at a reset or a power return (R163): the mask is kept. -/
def PortState.home (x : PortState) : PortState := ⟨.hunt, Cursor.home, 0, x.mask⟩

/-- The port and link state of every block at a port reset (R171). -/
def State.portsHome (s : State) : State :=
  { s with
    ports := ⟨s.ports.kiln.home, s.ports.line.home, s.ports.yard.home⟩
    probeRx := .hunt
    boardRx := .hunt
    boardOut := none
    lastSeq := none
    lastReply := none }

/-- A chamber with its command queue emptied (R70). -/
def Chamber.queueEmptied (x : Chamber) : Chamber := { x with queue := [] }

/-- A port reset (R171). -/
def State.portReset (s : State) : State :=
  { s.portsHome with chambers := s.chambers.map Chamber.queueEmptied }

/-- PORT_RESET (R171). -/
def execPortReset (s : State) : Host.Outcome State Fault Refusal := whilePowered s (.next s.portReset)

/-- The clear reset (R172): a port reset, and the working tables emptied. -/
def State.clearReset (s : State) : State :=
  { s.portsHome with
    chambers := s.chambers.map fun x => Chamber.cleared x.settings
    probes := s.probes.map ProbeBank.reset
    doors := s.doors.map fun d => { d with hold := none }
    rings := s.rings.map EventRing.emptied
    charges := Vector.replicate 8 none
    draw := none
    fifo := []
    lineReady := true
    silence := none
    blocked := false
    packs := Vector.replicate 16 none
    labelQueue := [] }

/-- CLEAR_RESET (R172). -/
def execClearReset (s : State) : Host.Outcome State Fault Refusal := whilePowered s (.next s.clearReset)

/-! ### Power return (R169) -/

/-- A door hold of a chamber that was RUNNING or HELD, found with its door open at return (R94). -/
def State.holdAtReturn (c : ChamberNo) (s : State) : State :=
  let t := s.modChamber c fun x => { x with state := .doorHold, returnState := some .held }
  let t := t.modBound c fun ch => { ch with doorOpenings := satAdd Config.maxShort ch.doorOpenings 1 }
  t.setMonitor c { t.monitor c with hold := some ⟨0, false⟩ }

/-- A door hold whose door is found closed at return (R94): the open time as at loss is counted. -/
def State.endHoldAtReturn (c : ChamberNo) (s : State) : State :=
  let open_ := match (s.monitor c).hold with
    | some h => h.openTime
    | none => 0
  let long := (s.chamber c).settings.limitTicks < open_
  let t := s.modBound c fun ch =>
    let ch := { ch with doorSeconds := satAdd Config.maxCount ch.doorSeconds (open_ / 64) }
    if long then ch.mark .doorLong else ch
  (t.setMonitor c { t.monitor c with hold := none }).modChamber c fun x => { x with state := .held, returnState := none }

/-- The state a chamber comes back in, with its door hold (R61, R94). -/
def State.doorAtReturn (c : ChamberNo) (s : State) : State :=
  match (s.chamber c).state, (s.monitor c).door with
  | .running, .closed | .held, .closed => s.modChamber c fun x => { x with state := .held }
  | .running, .opened | .held, .opened => s.holdAtReturn c
  | .doorHold, .opened => s.modChamber c fun x => { x with returnState := some .held }
  | .doorHold, .closed => s.endHoldAtReturn c
  | .empty, _ | .loaded, _ | .cooling, _ | .complete, _ => s

/-- The countdown of a chamber at power return (R63, R87): the full interval in the states in which it runs. -/
def Chamber.atReturn (x : Chamber) : Chamber :=
  if x.state.counts then { x.loadCountdown with queue := [] } else { x with queue := [] }

/-- A chamber at power return (R87, R94): `level` is the sampled door input. -/
def State.chamberReturn (c : ChamberNo) (level : DoorLevel) (s : State) : State :=
  let atLoss := (s.chamber c).state
  let t := s.setMonitor c { s.monitor c with input := level, door := level, debounce := none }
  let t := (t.doorAtReturn c).modChamber c Chamber.atReturn
  let t := if atLoss.inRun then (t.modBound c (Charge.mark .powerHold)).raise .held else t
  if atLoss = .empty then t else t.offer c (.powerReturn atLoss)

/-- The silence countdown at power return (R135). -/
def State.silenceReturn (s : State) : State :=
  { s with silence := s.silence.map fun _ => ⟨s.plan.silence, 0, s.plan.silence, s.plan.closeOnIdle⟩ }

/-- A power return with the backup valid (R169): ports and links first, then the chambers, the FIFO level and the tally. -/
def State.powerReturn (d0 d1 d2 d3 : DoorLevel) (s : State) : State :=
  let t := s.portsHome.silenceReturn
  let t := { t with
    power := ⟨true, s.power.vbatInRange, s.power.vbatInRange, true⟩
    lineReady := decide (s.fifo.length ≤ 24)
    blocked := s.tallyStuck }
  (((t.chamberReturn 0 d0).chamberReturn 1 d1).chamberReturn 2 d2).chamberReturn 3 d3

/-- Main power returns (R168): the hold marker decides between a power return and a cleared start. The waiting commands, the
strap and the level of VBAT are not the part's to clear. -/
def State.mainReturns (d0 d1 d2 d3 : DoorLevel) (s : State) : State :=
  if s.power.holdMarker then s.powerReturn d0 d1 d2 d3
  else State.cleared d0 d1 d2 d3 s.power.vbatInRange s.baud s.pending

/-- POWER_RETURN (R169): the return of main power; the hold marker decides (R168). -/
def execPowerReturn (d0 d1 d2 d3 : DoorLevel) (s : State) : Host.Outcome State Fault Refusal :=
  .next (if s.power.main then s else s.mainReturns d0 d1 d2 d3)

/-- CLEARED_START (R170): the return of main power; the hold marker decides (R168). -/
def execClearedStart (d0 d1 d2 d3 : DoorLevel) (s : State) : Host.Outcome State Fault Refusal :=
  .next (if s.power.main then s else s.mainReturns d0 d1 d2 d3)

end Sys2Proof.Machine
end

