-- ==== Sys2Proof/Machine/Instant.lean ====
section
/-! DEFINITION. The evaluation instant (R75 to R84): statistics, invalid count, command service, run stage, cooling stage and
countdown load, and what each run command does when it is taken. -/

namespace Sys2Proof.Machine

/-- What an instant reads through the chamber's links (R58, R78): the schedule of the bound charge, the step index, the step. -/
structure RunView where
  sch : Schedule
  index : Nat
  step : Step
  deriving DecidableEq, Repr

/-- The links of a chamber in a run or in COOLING; none when one leads to no record. -/
def State.runView (s : State) (c : ChamberNo) : Option RunView :=
  match (s.bound c).bind fun (_, ch) => s.scheduleOf ch, (s.chamber c).stepIndex with
  | some sch, some t => (sch.steps[t]?).map fun st => ⟨sch, t, st⟩
  | _, _ => none

/-- The statistics stage (R76): computed, stored, and copied into the bound charge as its last statistics (R13). -/
def State.statsStage (c : ChamberNo) (s : State) : State :=
  let t := s.computeStats c
  t.modBound c fun ch => { ch with lastStats := some (t.chamber c).latest }

/-- The hold a part makes itself when blind (R76). -/
def State.blindHold (c : ChamberNo) (s : State) : State :=
  let t := s.modChamber c fun x => { x with state := .held }
  (((t.modBound c (Charge.mark .lowProbes)).raise .probe).raise .held).offer c (.autoHold .lowProbes)

/-- The invalid count stage (R76). -/
def State.countStage (c : ChamberNo) (s : State) : State :=
  let x := s.chamber c
  let count := if x.latest.values.isNone then satAdd Config.maxShort x.invalidCount 1 else 0
  let t := s.setChamber c { x with invalidCount := count }
  if Config.blindLimit ≤ count && x.state == .running then t.blindHold c else t

/-- A manual advance (R73, R74): MANUAL_STEP joins the marks; the chamber makes a step change to `next`, or enters COOLING with
`cause`. The COMMAND event comes before the COOLING event it causes (R77). -/
def State.manualAdvance (c : ChamberNo) (v : RunView) (cmd : RunCommand) (cause : CoolingCause)
    (next : Option (Nat × Step)) (s : State) : State :=
  let t := s.modBound c (Charge.mark .manualStep)
  match next with
  | some (i, st) => (t.stepChange c i st).offer c (.command cmd true)
  | none => ((t.intoCooling c v.sch.coolTemp).offer c (.command cmd true)).coolingEvents c cause v.sch.coolTime

/-- A run command taken from the queue of a RUNNING or HELD chamber, with its COMMAND event (R71 to R74, R77). -/
def State.carryOut (c : ChamberNo) (v : RunView) (cmd : RunCommand) (s : State) : State :=
  match cmd with
  | .hold =>
    if (s.chamber c).state == .running then
      (s.modChamber c fun x => { x with state := .held }).offer c (.command .hold true)
    else s.offer c (.command .hold false)
  | .resume =>
    if (s.chamber c).state == .held then
      (s.modChamber c fun x => { x with state := .running }).offer c (.command .resume true)
    else s.offer c (.command .resume false)
  | .step => s.manualAdvance c v .step .step ((v.sch.steps[v.index + 1]?).map fun st => (v.index + 1, st))
  | .skipPhase => s.manualAdvance c v .skipPhase .skipPhase (laterPhase v.step.phase v.index v.sch.steps)

/-- The command service stage (R77). -/
def State.commandStage (c : ChamberNo) (v : RunView) (s : State) : State :=
  let x := s.chamber c
  match x.state, x.queue with
  | .running, cmd :: rest | .held, cmd :: rest => (s.setChamber c { x with queue := rest }).carryOut c v cmd
  | _, _ => s

/-- The command service stage takes a STEP or SKIP-PHASE (R75, R77). -/
def Chamber.servesManual (x : Chamber) : Bool :=
  (x.state == .running || x.state == .held) &&
    match x.queue with
    | .step :: _ | .skipPhase :: _ => true
    | .hold :: _ | .resume :: _ | [] => false

/-- The ramp and the wet-bulb setpoint of the step now current (R80, R81). -/
def Chamber.ramped (loaded : Nat) (st : Step) (x : Chamber) : Chamber :=
  let m := rampMove st.ramp loaded st.dryBulb x.drySetpoint x.rampAcc
  { x with drySetpoint := m.1, rampAcc := m.2, wetSetpoint := wetBulb m.1 st.depression }

/-- The run stage (R79 to R81) of a RUNNING chamber whose countdown was loaded with `loaded`. -/
def State.runStage (c : ChamberNo) (v : RunView) (loaded : Nat) (s : State) : State :=
  let t := s.modChamber c fun x => { x with dwell := satAdd Config.maxCount x.dwell loaded }
  if v.step.advances (t.chamber c).dwell (t.chamber c).latest then
    match v.sch.steps[v.index + 1]? with
    | some st =>
      ((t.stepChange c (v.index + 1) st).offer c (.step v.index)).modChamber c (Chamber.ramped loaded st)
    | none => (t.intoCooling c v.sch.coolTemp).coolingEvents c .lastStep v.sch.coolTime
  else t.modChamber c (Chamber.ramped loaded v.step)

/-- The cooling stage (R84) of a chamber that was in COOLING when the instant began. -/
def State.coolingStage (c : ChamberNo) (v : RunView) (loaded : Nat) (s : State) : State :=
  let t := s.modChamber c fun x => { x with dwell := satAdd Config.maxCount x.dwell loaded }
  if v.sch.coolTime * 60 ≤ (t.chamber c).dwell then t.complete c else t

/-- The countdown load (R63, R75), unless the chamber is now COMPLETE. -/
def State.countdownStage (c : ChamberNo) (s : State) : State :=
  if (s.chamber c).state == .complete then s else s.modChamber c Chamber.loadCountdown

/-- An evaluation instant (R75) whose countdown was loaded with `loaded`. -/
def State.evaluate (c : ChamberNo) (v : RunView) (loaded : Nat) (s : State) : State :=
  let cooling := (s.chamber c).state == .cooling
  let counted := (s.statsStage c).countStage c
  let manual := (counted.chamber c).servesManual
  let served := counted.commandStage c v
  let run := if (served.chamber c).state == .running && !manual then served.runStage c v loaded else served
  let cooled := if cooling then run.coolingStage c v loaded else run
  cooled.countdownStage c

/-- EVALUATION_INSTANT (R75): taken when the countdown of a chamber in RUNNING, HELD, DOOR_HOLD or COOLING is at 0. -/
def execEvaluationInstant (c : ChamberNo) (s : State) : Host.Outcome State Fault Refusal :=
  whilePowered s <|
    match (s.chamber c).countdown with
    | some d =>
      if d.seconds = 0 && (s.chamber c).state.counts then
        orBroken ((s.runView c).map fun v => s.evaluate c v d.loaded)
      else .next s
    | none => .next s

end Sys2Proof.Machine
end

