-- ==== Sys2Proof/Machine/Labels.lean ====
section
/-! DEFINITION. The label queue (chapter 8): NEXT-LABEL, ACK-LABEL and REPRINT. -/

namespace Sys2Proof.Machine

/-- The oldest pack of the label queue in a state, with its slot (R143). -/
def State.oldestInQueue (st : PackState) (s : State) : Option (Fin 16 × Pack) :=
  s.labelQueue.findSome? fun k =>
    match s.pack k with
    | some p => if p.state == st then some (k, p) else none
    | none => none

/-- NEXT-LABEL at the pack table (R144). -/
def nextLabelOwner (s : State) : Owned :=
  match s.oldestInQueue .closed with
  | none => some (s, ⟨.none, []⟩)
  | some (k, p) =>
    match p.label with
    | none => none
    | some l => took (s.setPack k (some { p with state := .issued })) (labelRecord p l)

/-- ACK-LABEL at the pack table (R145). -/
def ackLabelOwner (params : List Byte) (s : State) : Owned :=
  match params with
  | hi :: lo :: _ =>
    let n := nat16 hi lo
    match if n = 0 then none else s.packByNumber n with
    | none => refuse .noPack s
    | some (k, p) =>
      if p.state != .issued then refuse .notIssued s
      else if (s.oldestInQueue .issued).map (·.1) != some k then refuse .notOldest s
      else
        let queue := s.labelQueue.filter (· != k)
        took { s.setPack k none with labelQueue := queue } (u16 n ++ u8 queue.length)
  | _ => refuse .outOfRange s

/-- REPRINT at the pack table (R146). -/
def reprintOwner (params : List Byte) (s : State) : Owned :=
  match params with
  | hi :: lo :: _ =>
    let n := nat16 hi lo
    match if n = 0 then none else s.packByNumber n with
    | none => refuse .noPack s
    | some (_, p) =>
      if p.state != .issued then refuse .notIssued s
      else
        match p.label with
        | none => none
        | some l => took s (labelRecord p l)
  | _ => refuse .outOfRange s

/-- NEXT-LABEL (R144): it carries no parameter. -/
def execNextLabel (p : Port) (tag : Byte) (_params : List Byte) (s : State) : Host.Outcome State Fault Refusal :=
  request .nextLabel p tag nextLabelOwner s

/-- ACK-LABEL (R145). -/
def execAckLabel (p : Port) (tag : Byte) (params : List Byte) (s : State) : Host.Outcome State Fault Refusal :=
  request .ackLabel p tag (ackLabelOwner params) s

/-- REPRINT (R146). -/
def execReprint (p : Port) (tag : Byte) (params : List Byte) (s : State) : Host.Outcome State Fault Refusal :=
  request .reprint p tag (reprintOwner params) s

end Sys2Proof.Machine
end

