-- ==== Sys2Proof/Machine/PortControl.lean ====
section
/-! DEFINITION. The port controllers (chapter 9): the cursor and READ, notices, STATUS, and the frame events of R149 to R152. -/

namespace Sys2Proof.Machine

/-! ### The cursor -/

/-- SET-CURSOR at its port controller (R154). -/
def setCursorOwner (p : Port) (params : List Byte) (s : State) : Owned :=
  match params with
  | t :: i :: a :: _ =>
    match tableOfCode t.toNat, boolOfCode a.toNat with
    | some table, some advance =>
      if i.toNat < table.indexCount then
        took (s.setPort p { s.port p with cursor := ⟨table, i.toNat, advance, true⟩ }) [t, i, a]
      else refuse .outOfRange s
    | _, _ => refuse .outOfRange s
  | _ => refuse .outOfRange s

/-- The index a READ reads at in a table of `count` records, `count` not 0 (R155): stepped first with advance on and the read
mark clear, and 0 where it would lie at or beyond the count. -/
def Cursor.readIndex (count : Nat) (cur : Cursor) : Nat :=
  let i := if cur.advance && !cur.readMark then cur.index + 1 else cur.index
  if i < count then i else 0

/-- READ at its port controller (R155): an empty ring answers NONE. -/
def readOwner (p : Port) (s : State) : Owned :=
  let cur := (s.port p).cursor
  let count := s.tableCount cur.table
  if count = 0 then some (s, ⟨.none, u8 cur.table.code ++ u8 cur.index⟩)
  else
    let i := cur.readIndex count
    took (s.setPort p { s.port p with cursor := { cur with index := i, readMark := false } })
      (u8 cur.table.code ++ u8 i ++ s.tableRecord cur.table i)

/-! ### Notices -/

/-- READ-NOTICES at its port controller (R160). -/
def readNoticesOwner (p : Port) (s : State) : Owned :=
  let x := s.port p
  took (s.setPort p { x with pending := 0 }) (NoticeSet.field x.pending ++ NoticeSet.field x.mask)

/-- SET-NOTICE-MASK at its port controller (R160): bits 12 to 15 name no notice (R174). -/
def setNoticeMaskOwner (p : Port) (params : List Byte) (s : State) : Owned :=
  match params with
  | hi :: lo :: _ =>
    let n := nat16 hi lo
    if 4096 ≤ n then refuse .outOfRange s
    else took (s.setPort p { s.port p with mask := BitVec.ofNat 12 n }) (u16 n)
  | _ => refuse .outOfRange s

/-! ### STATUS -/

/-- The number of packs of the label queue in a state (R158). -/
def State.queueCount (st : PackState) (s : State) : Nat :=
  (s.labelQueue.filter fun k =>
    match s.pack k with
    | some p => p.state == st
    | none => false).length

/-- The results of STATUS (R158), in the order of its list. -/
def State.statusResults (p : Port) (s : State) : List Byte :=
  let x := s.port p
  allChambers.flatMap (fun c => u8 (s.chamber c).state.code)
    ++ allChambers.flatMap (fun c => optField 1 u8 (s.chamber c).stepIndex)
    ++ allChambers.flatMap (fun c => Config.levelField (s.chamber c).state.heat)
    ++ allChambers.flatMap (fun c => u8 (DoorLevel.code (s.monitor c).door))
    ++ u8 s.drawCode ++ optField 2 u16 (s.idAt (s.draw.map (·.slot)))
    ++ countField s.fifo.length ++ Config.levelField s.lineReady ++ u8 (boolCode s.blocked)
    ++ countField (s.queueCount .closed) ++ countField (s.queueCount .issued)
    ++ u8 (boolCode s.openPack.isSome)
    ++ countField (allChargeSlots.filter fun k => (s.charge k).isNone).length
    ++ countField (allPackSlots.filter fun k => (s.pack k).isNone).length
    ++ s.stamp.field ++ Config.flagField s.clock.lost ++ NoticeSet.field x.pending ++ NoticeSet.field x.mask

/-! ### The meanings of the requests -/

/-- SET-CURSOR (R154). -/
def execSetCursor (p : Port) (tag : Byte) (params : List Byte) (s : State) : Host.Outcome State Fault Refusal :=
  request .setCursor p tag (setCursorOwner p params) s

/-- READ (R155): it carries no parameter. -/
def execRead (p : Port) (tag : Byte) (_params : List Byte) (s : State) : Host.Outcome State Fault Refusal :=
  request .read p tag (readOwner p) s

/-- READ-NOTICES (R160): it carries no parameter. -/
def execReadNotices (p : Port) (tag : Byte) (_params : List Byte) (s : State) : Host.Outcome State Fault Refusal :=
  request .readNotices p tag (readNoticesOwner p) s

/-- SET-NOTICE-MASK (R160). -/
def execSetNoticeMask (p : Port) (tag : Byte) (params : List Byte) (s : State) : Host.Outcome State Fault Refusal :=
  request .setNoticeMask p tag (setNoticeMaskOwner p params) s

/-- STATUS (R158): it carries no parameter. -/
def execStatus (p : Port) (tag : Byte) (_params : List Byte) (s : State) : Host.Outcome State Fault Refusal :=
  request .status p tag (fun s => took s (s.statusResults p)) s

/-! ### Frame events -/

/-- UNKNOWN_REQUEST (R151): answered UNKNOWN with no results. A code that names a request is not this command's. -/
def execUnknownRequest (p : Port) (code tag : Byte) (s : State) : Host.Outcome State Fault Refusal :=
  if (requestOfCode code).isSome then .refused .codeNamesRequest
  else if s.takesFrame p then .next (s.respond p code tag ⟨.unknown, []⟩)
  else .next s

/-- REQUEST_FRAME_CRC_FAIL (R150): the frame is discarded without a response. -/
def execRequestFrameCrcFail (p : Port) (s : State) : Host.Outcome State Fault Refusal :=
  .next (if s.takesFrame p then s.setRx p .hunt else s)

/-- PORT_FRAME_BAD_LENGTH (R149): a length byte outside 2..64 ends the frame; one inside leaves the controller in FRAME. -/
def execPortFrameBadLength (p : Port) (len : Byte) (s : State) : Host.Outcome State Fault Refusal :=
  .next (if s.takesFrame p && !lengthByteGood len then s.setRx p .hunt else s)

/-- The frame window of a port has ended (R149, R167). -/
def PortRx.windowOver : PortRx → Bool
  | .frame e => decide (Config.portWindow ≤ e)
  | .hunt | .respond _ => false

/-- PORT_FRAME_WINDOW_EXPIRY (R149). -/
def execPortFrameWindowExpiry (p : Port) (s : State) : Host.Outcome State Fault Refusal :=
  whilePowered s (.next (if (s.port p).rx.windowOver then s.setRx p .hunt else s))

/-- A controller that is sending a response (R152). -/
def PortRx.responding : PortRx → Bool
  | .respond _ => true
  | .hunt | .frame _ => false

/-- RESPONSE_SENT (R152): the controller returns to HUNT. -/
def execResponseSent (p : Port) (s : State) : Host.Outcome State Fault Refusal :=
  whilePowered s (.next (if (s.port p).rx.responding then s.setRx p .hunt else s))

/-- PORT_START_BYTE (R149): in HUNT it begins a frame; in FRAME it is data; in RESPOND it is discarded (R152). -/
def execPortStartByte (p : Port) (s : State) : Host.Outcome State Fault Refusal :=
  whilePowered s (.next (if (s.port p).rx = .hunt then s.setRx p (.frame 0) else s))

end Sys2Proof.Machine
end

