-- ==== Sys2Proof/Machine/Schedules.lean ====
section
/-! DEFINITION. The schedule library, the staging record and the species table (chapter 2): WRITE on STAGING and on SPECIES,
COMMIT-SCHEDULE and CLEAR-SCHEDULE. -/

namespace Sys2Proof.Machine

/-! ### In-use tests (R27) -/

/-- A charge in ASSIGNED, LOADED or IN_KILN that satisfies `names`. -/
def State.heldBy (s : State) (names : Charge → Bool) : Bool :=
  allChargeSlots.any fun k =>
    match s.charge k with
    | some ch => ch.state.holdsRecords && names ch
    | none => false

/-- Schedule `n` is in use (R27). -/
def State.scheduleInUse (s : State) (n : Fin 16) : Bool := s.heldBy fun ch => ch.schedule == n

/-- Species `i` is in use (R27). -/
def State.speciesInUse (s : State) (i : Fin 8) : Bool := s.heldBy fun ch => ch.species == i

/-! ### Validation of the staging record (R24) -/

/-- The first check of a list that fails, by its cause. -/
def firstFailure : List (Bool × Nat) → Option Nat
  | [] => none
  | (passes, cause) :: rest => if passes then firstFailure rest else some cause

/-- The header checks of R24, in order, with their causes. -/
def StagingHeader.checks (h : StagingHeader) : List (Bool × Nat) :=
  [(2 ≤ h.stepCount.toNat && h.stepCount.toNat ≤ 12, 0),
   (40 ≤ h.targetMc.toNat && h.targetMc.toNat ≤ 250, 1),
   (5 ≤ h.wetMargin.toNat && h.wetMargin.toNat ≤ 50, 2),
   (200 ≤ h.coolTemp.toNat && h.coolTemp.toNat ≤ 600, 3),
   (h.coolTime.toNat ≤ 720, 4)]

/-- Check 16 of R24 for one step: a DRY step with a limit has it below the limit of every earlier DRY step that has one. -/
def StagingStep.belowEarlier (earlier : List StagingStep) (st : StagingStep) : Bool :=
  st.phase != 0 || st.changeAt == 0 ||
    earlier.all fun e => e.phase != 0 || e.changeAt == 0 || st.changeAt < e.changeAt

/-- The checks of R24 on a step, in order, with their causes; `earlier` are the steps before it, the nearest first. -/
def StagingStep.checks (earlier : List StagingStep) (st : StagingStep) : List (Bool × Nat) :=
  [(st.phase.toNat ≤ 2, 5),
   (st.basis.toNat ≤ 2, 6),
   (st.changeAt.toNat ≤ 600, 7),
   (200 ≤ st.dryBulb.toNat && st.dryBulb.toNat ≤ 1200, 8),
   (st.depression.toNat ≤ 400, 9),
   (st.depression.toNat ≤ st.dryBulb.toNat, 10),
   (st.minDwell.toNat ≤ 10080, 11),
   (st.ramp.toNat ≤ 200, 12),
   (match earlier with
    | [] => st.phase == 0
    | _ :: _ => true, 13),
   (match earlier with
    | [] => true
    | before :: _ => before.phase ≤ st.phase, 14),
   (st.belowEarlier earlier, 15)]

/-- The first failing step of R24, as its STAGING index and cause. `index` is the STAGING index of the first of `steps`. -/
def stepsFailure (index : Nat) (earlier : List StagingStep) : List StagingStep → Option (Nat × Nat)
  | [] => none
  | st :: rest =>
    match firstFailure (st.checks earlier) with
    | some cause => some (index, cause)
    | none => stepsFailure (index + 1) (st :: earlier) rest

/-- The step slots the header's step count names. -/
def Staging.used (sg : Staging) : List StagingStep := sg.steps.toList.take sg.header.stepCount.toNat

/-- The validation of R24: the failing STAGING index and cause, none when the staging record is sound. -/
def Staging.failure (sg : Staging) : Option (Nat × Nat) :=
  match firstFailure sg.header.checks with
  | some cause => some (0, cause)
  | none => stepsFailure 1 [] sg.used

/-- A validated step slot as a schedule step (R25). Codes 0 to 2 name the phases and bases; R24 has refused any other. -/
def StagingStep.committed (st : StagingStep) : Step where
  phase := (phaseOfCode st.phase.toNat).getD .dry
  basis := (basisOfCode st.basis.toNat).getD .wettestHalf
  changeAt := st.changeAt.toNat
  dryBulb := st.dryBulb.toNat
  depression := st.depression.toNat
  minDwell := st.minDwell.toNat
  ramp := st.ramp.toNat

/-- The schedule a commit copies from the staging record (R25). -/
def Staging.committed (sg : Staging) : Schedule where
  targetMc := sg.header.targetMc.toNat
  wetMargin := sg.header.wetMargin.toNat
  coolTemp := sg.header.coolTemp.toNat
  coolTime := sg.header.coolTime.toNat
  steps := sg.used.map StagingStep.committed

/-- COMMIT-SCHEDULE at the library (R25). -/
def commitScheduleOwner (params : List Byte) (s : State) : Owned :=
  match params with
  | b :: _ =>
    match finOf 16 b with
    | none => refuse .outOfRange s
    | some n =>
      match s.staging.failure with
      | some (index, cause) => refuseWith .invalid (u8 index ++ u8 cause) s
      | none =>
        if s.scheduleInUse n then refuse .inUse s
        else
          took { s with schedules := s.schedules.set n (some s.staging.committed) }
            (u8 n.val ++ u8 s.staging.header.stepCount.toNat)
  | _ => refuse .outOfRange s

/-- CLEAR-SCHEDULE at the library (R26). -/
def clearScheduleOwner (params : List Byte) (s : State) : Owned :=
  match params with
  | b :: _ =>
    match finOf 16 b with
    | none => refuse .outOfRange s
    | some n =>
      if s.scheduleInUse n then refuse .inUse s
      else took { s with schedules := s.schedules.set n none } (u8 n.val)
  | _ => refuse .outOfRange s

/-! ### WRITE (R156) -/

/-- A taken WRITE steps the index when advance is on, and sets the read mark (R156). -/
def Cursor.written (count : Nat) (cur : Cursor) : Cursor :=
  { cur with
    index := if cur.advance then (if cur.index + 1 < count then cur.index + 1 else 0) else cur.index
    readMark := true }

/-- The cursor of a port after a taken WRITE. -/
def State.stepWritten (p : Port) (count : Nat) (s : State) : State :=
  s.setPort p { s.port p with cursor := (s.port p).cursor.written count }

/-- A staging header as a WRITE carries it: 9 bytes (R21, R23, R174). -/
def parseHeader : List Byte → Option StagingHeader
  | n :: t1 :: t0 :: w1 :: w0 :: c1 :: c0 :: m1 :: m0 :: _ => some ⟨n, t1 ++ t0, w1 ++ w0, c1 ++ c0, m1 ++ m0⟩
  | _ => none

/-- A step slot as a WRITE carries it: 12 bytes (R22, R23, R174). -/
def parseStep : List Byte → Option StagingStep
  | ph :: ba :: c1 :: c0 :: d1 :: d0 :: e1 :: e0 :: m1 :: m0 :: r1 :: r0 :: _ =>
    some ⟨ph, ba, c1 ++ c0, d1 ++ d0, e1 ++ e0, m1 ++ m0, r1 ++ r0⟩
  | _ => none

/-- WRITE with the cursor on STAGING (R23): the record at the index is replaced, unchecked. -/
def writeStagingOwner (p : Port) (params : List Byte) (s : State) : Owned :=
  match (s.port p).cursor.index with
  | 0 =>
    match parseHeader params with
    | some h => took ({ s with staging := { s.staging with header := h } }.stepWritten p 13) []
    | none => refuse .outOfRange s
  | t + 1 =>
    match parseStep params with
    | some st =>
      took ({ s with staging := { s.staging with steps := s.staging.steps.set (Fin.ofNat 12 t) st } }.stepWritten p 13) []
    | none => refuse .outOfRange s

/-- A breakpoint as a WRITE carries it: its code, then its MC (R28, R174; log entry 12). -/
def breakpoint (l1 l0 m1 m0 : Byte) : Breakpoint := ⟨nat16 l1 l0, nat16 m1 m0⟩

/-- A species record as a WRITE carries it: six breakpoints and the coefficient, 25 bytes (R28, R29, R174). -/
def parseSpecies : List Byte → Option Species
  | a3 :: a2 :: a1 :: a0 :: b3 :: b2 :: b1 :: b0 :: c3 :: c2 :: c1 :: c0 :: d3 :: d2 :: d1 :: d0 ::
    e3 :: e2 :: e1 :: e0 :: f3 :: f2 :: f1 :: f0 :: coeff :: _ =>
    some ⟨#v[breakpoint a3 a2 a1 a0, breakpoint b3 b2 b1 b0, breakpoint c3 c2 c1 c0, breakpoint d3 d2 d1 d0,
      breakpoint e3 e2 e1 e0, breakpoint f3 f2 f1 f0], coeff.toNat⟩
  | _ => none

/-- The checks of R30 on a breakpoint, in order, with their causes; `before` is the breakpoint before it. -/
def Breakpoint.checks (before : Option Breakpoint) (b : Breakpoint) : List (Bool × Nat) :=
  [(300 ≤ b.code && b.code ≤ 1400, 0),
   (match before with
    | some a => a.code < b.code
    | none => true, 1),
   (b.mc ≤ 600, 2),
   (match before with
    | some a => b.mc < a.mc
    | none => true, 3)]

/-- The first failing breakpoint of R30, as its number and cause. -/
def curveFailure (index : Nat) (before : Option Breakpoint) : List Breakpoint → Option (Nat × Nat)
  | [] => none
  | b :: rest =>
    match firstFailure (b.checks before) with
    | some cause => some (index, cause)
    | none => curveFailure (index + 1) (some b) rest

/-- The validation of R30: the failing breakpoint and cause, none when the record is sound. -/
def Species.failure (sp : Species) : Option (Nat × Nat) := curveFailure 0 none sp.points.toList

/-- WRITE with the cursor on SPECIES (R29). -/
def writeSpeciesOwner (p : Port) (params : List Byte) (s : State) : Owned :=
  match parseSpecies params with
  | none => refuse .outOfRange s
  | some sp =>
    let i : Fin 8 := Fin.ofNat 8 (s.port p).cursor.index
    match sp.failure with
    | some (index, cause) => refuseWith .invalid (u8 index ++ u8 cause) s
    | none =>
      if s.speciesInUse i then refuse .inUse s
      else took ({ s with species := s.species.set i (some sp) }.stepWritten p 8) (u8 i.val)

/-- A WRITE frame at the block that owns the cursor's table (R151, R153, R156): on a table that is not writable it is
answered NOT_PERMITTED. -/
def writeOwner (p : Port) (params : List Byte) (s : State) : Owned :=
  match (s.port p).cursor.table with
  | .staging => writeStagingOwner p params s
  | .species => writeSpeciesOwner p params s
  | .chambers | .charges | .probes | .ring _ | .schedules | .steps | .packs | .draw | .clock => refuse .notPermitted s

/-- WRITE, the row whose cursor stands on STAGING (R23). The frame is the same for both WRITE rows: the cursor decides. -/
def execWriteStaging (p : Port) (tag : Byte) (params : List Byte) (s : State) : Host.Outcome State Fault Refusal :=
  request .write p tag (writeOwner p params) s

/-- WRITE, the row whose cursor stands on SPECIES (R29). The frame is the same for both WRITE rows: the cursor decides. -/
def execWriteSpecies (p : Port) (tag : Byte) (params : List Byte) (s : State) : Host.Outcome State Fault Refusal :=
  request .write p tag (writeOwner p params) s

/-- COMMIT-SCHEDULE (R25). -/
def execCommitSchedule (p : Port) (tag : Byte) (params : List Byte) (s : State) : Host.Outcome State Fault Refusal :=
  request .commitSchedule p tag (commitScheduleOwner params) s

/-- CLEAR-SCHEDULE (R26). -/
def execClearSchedule (p : Port) (tag : Byte) (params : List Byte) (s : State) : Host.Outcome State Fault Refusal :=
  request .clearSchedule p tag (clearScheduleOwner params) s

end Sys2Proof.Machine
end

