-- ==== Sys2Proof/Machine/Dispatch.lean ====
section
/-! DEFINITION. The dispatch of commands: one arm per row of spec/opcode_table.json, in the order of Syntax.lean. -/

namespace Sys2Proof.Machine

def exec (i : Instr) (s : State) : Host.Outcome State Fault Refusal :=
  match i with
  | .load p tag params => Sys2Proof.Machine.execLoad p tag params s
  | .start p tag params => Sys2Proof.Machine.execStart p tag params s
  | .hold p tag params => Sys2Proof.Machine.execHold p tag params s
  | .resume p tag params => Sys2Proof.Machine.execResume p tag params s
  | .step p tag params => Sys2Proof.Machine.execStep p tag params s
  | .skipPhase p tag params => Sys2Proof.Machine.execSkipPhase p tag params s
  | .abort p tag params => Sys2Proof.Machine.execAbort p tag params s
  | .release p tag params => Sys2Proof.Machine.execRelease p tag params s
  | .check p tag params => Sys2Proof.Machine.execCheck p tag params s
  | .probeEnable p tag params => Sys2Proof.Machine.execProbeEnable p tag params s
  | .chamberSet p tag params => Sys2Proof.Machine.execChamberSet p tag params s
  | .draw p tag params => Sys2Proof.Machine.execDraw p tag params s
  | .endDraw p tag params => Sys2Proof.Machine.execEndDraw p tag params s
  | .closePack p tag params => Sys2Proof.Machine.execClosePack p tag params s
  | .newCharge p tag params => Sys2Proof.Machine.execNewCharge p tag params s
  | .deleteCharge p tag params => Sys2Proof.Machine.execDeleteCharge p tag params s
  | .writeStaging p tag params => Sys2Proof.Machine.execWriteStaging p tag params s
  | .writeSpecies p tag params => Sys2Proof.Machine.execWriteSpecies p tag params s
  | .commitSchedule p tag params => Sys2Proof.Machine.execCommitSchedule p tag params s
  | .clearSchedule p tag params => Sys2Proof.Machine.execClearSchedule p tag params s
  | .packPlan p tag params => Sys2Proof.Machine.execPackPlan p tag params s
  | .nextLabel p tag params => Sys2Proof.Machine.execNextLabel p tag params s
  | .ackLabel p tag params => Sys2Proof.Machine.execAckLabel p tag params s
  | .reprint p tag params => Sys2Proof.Machine.execReprint p tag params s
  | .setTime p tag params => Sys2Proof.Machine.execSetTime p tag params s
  | .setCursor p tag params => Sys2Proof.Machine.execSetCursor p tag params s
  | .read p tag params => Sys2Proof.Machine.execRead p tag params s
  | .readNotices p tag params => Sys2Proof.Machine.execReadNotices p tag params s
  | .setNoticeMask p tag params => Sys2Proof.Machine.execSetNoticeMask p tag params s
  | .status p tag params => Sys2Proof.Machine.execStatus p tag params s
  | .mark p tag params => Sys2Proof.Machine.execMark p tag params s
  | .unknownRequest p code tag => Sys2Proof.Machine.execUnknownRequest p code tag s
  | .requestFrameCrcFail p => Sys2Proof.Machine.execRequestFrameCrcFail p s
  | .portFrameBadLength p len => Sys2Proof.Machine.execPortFrameBadLength p len s
  | .portFrameWindowExpiry p => Sys2Proof.Machine.execPortFrameWindowExpiry p s
  | .responseSent p => Sys2Proof.Machine.execResponseSent p s
  | .probeFrame chamber channel codeHigh codeLow checkByte => Sys2Proof.Machine.execProbeFrame chamber channel codeHigh codeLow checkByte s
  | .probeFrameWindowExpiry => Sys2Proof.Machine.execProbeFrameWindowExpiry s
  | .boardFrame sequence mcHigh mcLow lengthHigh lengthLow checkByte => Sys2Proof.Machine.execBoardFrame sequence mcHigh mcLow lengthHigh lengthLow checkByte s
  | .boardFrameWindowExpiry => Sys2Proof.Machine.execBoardFrameWindowExpiry s
  | .tallyMove => Sys2Proof.Machine.execTallyMove s
  | .drawEnd => Sys2Proof.Machine.execDrawEnd s
  | .lineSilenceExpiry => Sys2Proof.Machine.execLineSilenceExpiry s
  | .evaluationInstant c => Sys2Proof.Machine.execEvaluationInstant c s
  | .doorInputChange c level => Sys2Proof.Machine.execDoorInputChange c level s
  | .doorDebounceExpiry c => Sys2Proof.Machine.execDoorDebounceExpiry c s
  | .doorLimitPassed c => Sys2Proof.Machine.execDoorLimitPassed c s
  | .millTimeWrap => Sys2Proof.Machine.execMillTimeWrap s
  | .vbatRangeChange inRange => Sys2Proof.Machine.execVbatRangeChange inRange s
  | .mainPowerLoss => Sys2Proof.Machine.execMainPowerLoss s
  | .powerReturn d0 d1 d2 d3 => Sys2Proof.Machine.execPowerReturn d0 d1 d2 d3 s
  | .clearedStart d0 d1 d2 d3 => Sys2Proof.Machine.execClearedStart d0 d1 d2 d3 s
  | .portReset => Sys2Proof.Machine.execPortReset s
  | .clearReset => Sys2Proof.Machine.execClearReset s
  | .portStartByte p => Sys2Proof.Machine.execPortStartByte p s
  | .probeStartByte => Sys2Proof.Machine.execProbeStartByte s
  | .boardStartByte => Sys2Proof.Machine.execBoardStartByte s

end Sys2Proof.Machine
end

