-- ==== Sys2Proof/Machine/Tick.lean ====
section
/-! DEFINITION. What the part does when no command waits (log entry 2): its own operations that are due, and else one
sixty-fourth of a second of the crystal (R164, R167). -/

namespace Sys2Proof.Machine

/-! ### Counts on the relative time base (R167) -/

/-- A reading age one sixty-fourth later (R36). -/
def Age.tick (a : Age) : Age := if a.frac < 63 then ⟨a.seconds, a.frac + 1⟩ else ⟨satAdd Config.maxShort a.seconds 1, 0⟩

def SampleSlot.tick (x : SampleSlot) : SampleSlot := { x with age := x.age.tick }
def DryBulb.tick (d : DryBulb) : DryBulb := { d with age := d.age.tick }
def ProbeBank.tick (b : ProbeBank) : ProbeBank := { b with samples := b.samples.map SampleSlot.tick, dryBulb := b.dryBulb.tick }

/-- A countdown one sixty-fourth later (R63). -/
def Countdown.tick (d : Countdown) : Countdown :=
  if d.frac < 63 then { d with frac := d.frac + 1 } else { d with seconds := d.seconds - 1, frac := 0 }

def Chamber.tick (x : Chamber) : Chamber := { x with countdown := x.countdown.map Countdown.tick }

/-- The line-silence countdown one sixty-fourth later (R133). -/
def Silence.tick (x : Silence) : Silence :=
  if x.frac < 63 then { x with frac := x.frac + 1 } else { x with seconds := x.seconds - 1, frac := 0 }

/-- Debounce elapsed and open time one sixty-fourth later (R88, R89, R91). -/
def DoorMonitor.tick (d : DoorMonitor) : DoorMonitor :=
  { d with
    debounce := d.debounce.map fun b => { b with elapsed := b.elapsed + 1 }
    hold := d.hold.map fun h => { h with openTime := satAdd Config.maxCount h.openTime 1 } }

def PortRx.tick : PortRx → PortRx
  | .frame e => .frame (e + 1)
  | .hunt => .hunt
  | .respond r => .respond r

def PortState.tick (x : PortState) : PortState := { x with rx := x.rx.tick }

def LinkRx.tick : LinkRx → LinkRx
  | .frame e => .frame (e + 1)
  | .hunt => .hunt

/-- Mill time one sixty-fourth later (R164); at its end it waits for the wrap, which MILL_TIME_WRAP makes. -/
def MillClock.tick (k : MillClock) : MillClock :=
  if k.atEnd then k
  else if k.sixtyFourths < 63 then { k with sixtyFourths := k.sixtyFourths + 1 }
  else { k with seconds := k.seconds + 1, sixtyFourths := 0 }

/-- The counts that run on the backup supply: mill time and reading ages (R164, R167). -/
def State.tickBackup (s : State) : State := { s with clock := s.clock.tick, probes := s.probes.map ProbeBank.tick }

/-- The counts that run while main power is on (R167). -/
def State.tickMain (s : State) : State :=
  { s with
    ports := ⟨s.ports.kiln.tick, s.ports.line.tick, s.ports.yard.tick⟩
    probeRx := s.probeRx.tick
    boardRx := s.boardRx.tick
    chambers := s.chambers.map Chamber.tick
    doors := s.doors.map DoorMonitor.tick
    silence := s.silence.map Silence.tick }

/-! ### What is due -/

/-- The part's own operations that need no time to pass: the draw end and the tally move (R121, R127). -/
def State.dueNow (s : State) : List Instr :=
  if !s.power.main then []
  else if s.drawEndDue then [.drawEnd]
  else if s.moveDue then [.tallyMove]
  else []

/-- A chamber's countdown is at 0 (R75). -/
def Chamber.instantDue (x : Chamber) : Bool :=
  match x.countdown with
  | some d => d.seconds = 0 && x.state.counts
  | none => false

/-- The expiries that the passing of time has brought due while main power is on (R167), in a fixed order (log entry 2). -/
def State.expiries (s : State) : List Instr :=
  (if (s.ports.kiln.rx).windowOver then [.portFrameWindowExpiry .kiln] else [])
    ++ (if (s.ports.line.rx).windowOver then [.portFrameWindowExpiry .line] else [])
    ++ (if (s.ports.yard.rx).windowOver then [.portFrameWindowExpiry .yard] else [])
    ++ (if s.probeRx.windowOver then [.probeFrameWindowExpiry] else [])
    ++ (if s.boardRx.windowOver then [.boardFrameWindowExpiry] else [])
    ++ (allChambers.filter s.limitPassed).map .doorLimitPassed
    ++ (allChambers.filter fun c => (s.monitor c).debounceOver).map .doorDebounceExpiry
    ++ (allChambers.filter fun c => (s.chamber c).instantDue).map .evaluationInstant
    ++ (match s.silence with
        | some x => if x.seconds = 0 then [.lineSilenceExpiry] else []
        | none => [])

/-- One sixty-fourth of a second: the counts advance, and what comes due joins the queue. -/
def State.tick (s : State) : State :=
  let wrap := if s.clock.atEnd then [Instr.millTimeWrap] else []
  if s.power.main then
    let t := s.tickBackup.tickMain
    { t with pending := wrap ++ t.expiries }
  else { s.tickBackup with pending := wrap }

/-- What the part does when no command waits. -/
def State.idle (s : State) : State :=
  match s.dueNow with
  | [] => s.tick
  | i :: rest => { s with pending := i :: rest }

end Sys2Proof.Machine
end

