-- ==== Sys2Proof/Safety.lean ====
section
/-! DEFINITION. What a sound state of the part is: the laws the manual states of every moment, each as a decidable predicate of
a state, and the words the statements use for answers. -/

namespace Sys2Proof.Machine

/-! ### Words for the requests -/

/-- Parameter bytes a request calls for (R151; the headings of the requests and the kinds of R174), with this cursor at its
port. A WRITE calls for as many as the record at the cursor has. -/
def bytesNeeded (cur : Cursor) : Request → Nat
  | .start | .hold | .resume | .step | .skipPhase | .abort | .release | .commitSchedule | .clearSchedule => 1
  | .deleteCharge | .ackLabel | .reprint | .setNoticeMask => 2
  | .load | .probeEnable | .draw | .setCursor | .mark => 3
  | .check | .setTime => 4
  | .newCharge => 6
  | .chamberSet | .packPlan => 12
  | .write => if cur.table = .species then 25 else if cur.index = 0 then 9 else 12
  | .endDraw | .closePack | .nextLabel | .read | .readNotices | .status => 0

/-! ### Ports and power -/

/-- R159: the pending set of a port holds only names that are raised to that port. -/
abbrev State.NoticesOwn (s : State) : Prop := ∀ p ∈ [Port.kiln, .line, .yard], (s.port p).pending &&& noticesOf p = (s.port p).pending

/-- R168: while main power is on the backup-valid flag follows VBAT and the hold marker is set; with it off no frame is in
reception and no response or reply is being sent. -/
abbrev State.PowerKept (s : State) : Prop :=
  (s.power.main = true → s.power.holdMarker = true ∧ s.power.backupValid = s.power.vbatInRange) ∧
  (s.power.main = false → s.probeRx = .hunt ∧ s.boardRx = .hunt ∧ s.boardOut = none ∧
    ∀ p ∈ [Port.kiln, .line, .yard], (s.port p).rx = .hunt)

/-! ### Bounded stores -/

/-- R112, R99, R70: the Board FIFO holds at most 32 records, an event ring at most 8 entries, a command queue at most 4. -/
abbrev State.StoresFit (s : State) : Prop :=
  s.fifo.length ≤ 32 ∧ (∀ c, (s.eventRing c).entries.length ≤ 8) ∧ ∀ c, (s.chamber c).queue.length ≤ 4

/-- Each number of a list is one more than the one before it, and 0 follows 65535 (R97). -/
def consecutive : List Nat → Bool
  | a :: b :: rest => b == (a + 1) % 65536 && consecutive (b :: rest)
  | [_] | [] => true

/-- R97: consecutive entries of a ring differ by 1, the newest carries the counter, and the counter is 0..65535. -/
abbrev State.RingsInOrder (s : State) : Prop :=
  ∀ c, consecutive ((s.eventRing c).entries.map (·.seq)) = true ∧ (s.eventRing c).counter ≤ 65535 ∧
    ∀ e ∈ (s.eventRing c).entries.getLast?, e.seq = (s.eventRing c).counter

/-! ### Chambers -/

/-- The presence columns of R58, R61 and R88 for one chamber and its door monitor. -/
abbrev Chamber.FieldsPresent (x : Chamber) (d : DoorMonitor) : Prop :=
  (x.chargeSlot.isSome ↔ x.state ≠ .empty) ∧
  (x.stepIndex.isSome ↔ x.state ≠ .empty ∧ x.state ≠ .loaded) ∧
  (x.countdown.isSome ↔ x.state.counts) ∧
  (x.returnState.isSome ↔ x.state = .doorHold) ∧
  (d.hold.isSome ↔ x.state = .doorHold) ∧
  (x.queue ≠ [] → x.state.inRun)

/-- Optional fields of the chambers and of the door monitors are present exactly in the states R58, R61 and R88 give. -/
abbrev State.FieldsPresent (s : State) : Prop := ∀ c, (s.chamber c).FieldsPresent (s.monitor c)

/-- R24: the header check with this cause, as the table words it. -/
def StagingHeader.passes (h : StagingHeader) : Nat → Prop
  | 0 => 2 ≤ h.stepCount.toNat ∧ h.stepCount.toNat ≤ 12
  | 1 => 40 ≤ h.targetMc.toNat ∧ h.targetMc.toNat ≤ 250
  | 2 => 5 ≤ h.wetMargin.toNat ∧ h.wetMargin.toNat ≤ 50
  | 3 => 200 ≤ h.coolTemp.toNat ∧ h.coolTemp.toNat ≤ 600
  | 4 => h.coolTime.toNat ≤ 720
  | _ => True

/-- R24: the check with this cause on step slot `t`, as the table words it. -/
def Staging.stepPasses (sg : Staging) (t : Fin 12) : Nat → Prop
  | 5 => sg.steps[t].phase.toNat ≤ 2
  | 6 => sg.steps[t].basis.toNat ≤ 2
  | 7 => sg.steps[t].changeAt.toNat ≤ 600
  | 8 => 200 ≤ sg.steps[t].dryBulb.toNat ∧ sg.steps[t].dryBulb.toNat ≤ 1200
  | 9 => sg.steps[t].depression.toNat ≤ 400
  | 10 => sg.steps[t].depression.toNat ≤ sg.steps[t].dryBulb.toNat
  | 11 => sg.steps[t].minDwell.toNat ≤ 10080
  | 12 => sg.steps[t].ramp.toNat ≤ 200
  | 13 => t = 0 → sg.steps[t].phase.toNat = 0
  | 14 => ∀ e : Fin 12, e.val + 1 = t.val → sg.steps[e].phase.toNat ≤ sg.steps[t].phase.toNat
  | 15 => sg.steps[t].phase.toNat = 0 → sg.steps[t].changeAt.toNat ≠ 0 → ∀ e : Fin 12, e < t → sg.steps[e].phase.toNat = 0 →
      sg.steps[e].changeAt.toNat ≠ 0 → sg.steps[t].changeAt.toNat < sg.steps[e].changeAt.toNat
  | _ => True

/-- R30: the check with this cause on breakpoint `i`, as the rule words it. -/
def Species.pointPasses (sp : Species) (i : Fin 6) : Nat → Prop
  | 0 => 300 ≤ sp.points[i].code ∧ sp.points[i].code ≤ 1400
  | 1 => ∀ e : Fin 6, e.val + 1 = i.val → sp.points[e].code < sp.points[i].code
  | 2 => sp.points[i].mc ≤ 600
  | 3 => ∀ e : Fin 6, e.val + 1 = i.val → sp.points[i].mc < sp.points[e].mc
  | _ => True

/-- R20, R24: what a VALID schedule satisfies. -/
def Schedule.Valid (sch : Schedule) : Prop :=
  (2 ≤ sch.steps.length ∧ sch.steps.length ≤ 12) ∧
  (40 ≤ sch.targetMc ∧ sch.targetMc ≤ 250) ∧ (5 ≤ sch.wetMargin ∧ sch.wetMargin ≤ 50) ∧
  (200 ≤ sch.coolTemp ∧ sch.coolTemp ≤ 600) ∧ sch.coolTime ≤ 720 ∧
  (∀ st ∈ sch.steps, st.changeAt ≤ 600 ∧ (200 ≤ st.dryBulb ∧ st.dryBulb ≤ 1200) ∧ st.depression ≤ 400 ∧
    st.depression ≤ st.dryBulb ∧ st.minDwell ≤ 10080 ∧ st.ramp ≤ 200) ∧
  (∀ st ∈ sch.steps.head?, st.phase = .dry) ∧
  sch.steps.Pairwise (fun a b => a.phase.code ≤ b.phase.code) ∧
  sch.steps.Pairwise (fun a b => a.phase = .dry → b.phase = .dry → a.changeAt ≠ 0 → b.changeAt ≠ 0 →
    b.changeAt < a.changeAt)
deriving Decidable

/-- R28, R30: what a VALID species record satisfies. -/
abbrev Species.Valid (sp : Species) : Prop :=
  (∀ b ∈ sp.points.toList, (300 ≤ b.code ∧ b.code ≤ 1400) ∧ b.mc ≤ 600) ∧
  sp.points.toList.Pairwise (fun a b => a.code < b.code ∧ b.mc < a.mc) ∧ sp.coeff ≤ 255

/-- R20, R28: every VALID record of the schedule library and of the species table passes its checks. -/
abbrev State.RecordsValid (s : State) : Prop :=
  (∀ n : Fin 16, ∀ sch ∈ s.schedules[n], sch.Valid) ∧ ∀ i : Fin 8, ∀ sp ∈ s.species[i], sp.Valid

/-- R81: the dry-bulb setpoint lies in 20.0..120.0 °C and the wet-bulb setpoint does not pass it; R58: the accumulator is below
3600 between instants. -/
abbrev State.SetpointsInRange (s : State) : Prop :=
  ∀ c, (200 ≤ (s.chamber c).drySetpoint ∧ (s.chamber c).drySetpoint ≤ 1200) ∧
    (s.chamber c).wetSetpoint ≤ (s.chamber c).drySetpoint ∧ (s.chamber c).rampAcc < 3600

/-! ### Probes -/

/-- R50: valid statistics lie within 0.0..60.0 % with driest ≤ mean ≤ wettest-half mean ≤ wettest. -/
abbrev Stats.InOrder (st : Stats) : Prop :=
  ∀ v ∈ st.values, v.driest ≤ v.mean ∧ v.mean ≤ v.wettestHalf ∧ v.wettestHalf ≤ v.wettest ∧ v.wettest ≤ 600

/-- R50, R54: check offsets lie in −5.0..+5.0 %, accepted MCs in 0.0..60.0 %, the statistics are in order, and the chamber
record's statistics are the copy of the Moisture unit's. -/
abbrev State.MoistureInRange (s : State) : Prop :=
  ∀ c, (∀ i : Fin 16, (-50 ≤ (s.bank c).samples[i].offset ∧ (s.bank c).samples[i].offset ≤ 50) ∧
      ∀ a ∈ (s.bank c).samples[i].trust.accepted, a ≤ 600) ∧
    (s.bank c).stats.InOrder ∧ (s.chamber c).latest = (s.bank c).stats

/-! ### Charges, chambers and the draw -/

/-- The state of a charge that goes with the state of the chamber it is bound to (R61). -/
def ChamberState.bindsIn : ChamberState → Option ChargeState
  | .empty => none
  | .loaded => some .loaded
  | .running | .held | .doorHold | .cooling => some .inKiln
  | .complete => some .dried

/-- R8, R61: the chamber's half of every binding has the charge's half, in the state that goes with the chamber's. -/
abbrev State.ChambersBound (s : State) : Prop :=
  ∀ c, ∀ k ∈ (s.chamber c).chargeSlot, ∃ ch ∈ s.charge k, ch.chamber = some c ∧ (s.chamber c).state.bindsIn = some ch.state

/-- R4, R8: the charge's half of every binding has the chamber's half, and is present exactly in LOADED, IN_KILN and DRIED. -/
abbrev State.ChargesBound (s : State) : Prop :=
  ∀ k, ∀ ch ∈ s.charge k, (∀ c ∈ ch.chamber, (s.chamber c).chargeSlot = some k) ∧
    (ch.chamber.isSome ↔ ch.state = .loaded ∨ ch.state = .inKiln ∨ ch.state = .dried)

/-- R8, R117: a charge is ON_LINE exactly when it is the drawn charge, and every FIFO record belongs to the draw's charge. -/
abbrev State.DrawHeld (s : State) : Prop :=
  (∀ d ∈ s.draw, ∃ ch ∈ s.charge d.slot, ch.state = .onLine) ∧
  (∀ k, ∀ ch ∈ s.charge k, ch.state = .onLine → ∃ d ∈ s.draw, d.slot = k) ∧
  ∀ b ∈ s.fifo, ∃ d ∈ s.draw, d.slot = b.slot

/-- R8: at no moment does one half of a binding or of the drawn link stand without the other. -/
abbrev State.Linked (s : State) : Prop := s.FieldsPresent ∧ s.ChambersBound ∧ s.ChargesBound ∧ s.DrawHeld

/-- R27, R28: a charge that waits for a kiln or is in one names a VALID schedule, and every charge a VALID species. -/
abbrev State.RecordsHeld (s : State) : Prop :=
  ∀ k, ∀ ch ∈ s.charge k, (ch.state.holdsRecords → s.schedules[ch.schedule].isSome) ∧ s.species[ch.species].isSome

/-- R78: in a run and in COOLING the step index names a step of the schedule of the bound charge. -/
abbrev State.OnAStep (s : State) : Prop :=
  ∀ c, (s.chamber c).state.counts → ∃ k ∈ (s.chamber c).chargeSlot, ∃ ch ∈ s.charge k, ∃ sch ∈ s.schedules[ch.schedule],
    ∃ t ∈ (s.chamber c).stepIndex, t < sch.steps.length

/-- The states of a charge after its kiln run (R7). -/
def ChargeState.pastKiln : ChargeState → Bool
  | .dried | .released | .onLine | .planed => true
  | .assigned | .loaded | .inKiln => false

/-- R4, R5, R139: the kiln history is present in a charge that has left the kiln, its final statistics from the entry to COOLING
on, its start time from START on, and remaining exactly in ON_LINE and PLANED. -/
abbrev State.HistoryPresent (s : State) : Prop :=
  (∀ k, ∀ ch ∈ s.charge k,
    (ch.state.pastKiln → ch.finalStats.isSome ∧ ch.endTime.isSome) ∧
    (ch.state.pastKiln ∨ ch.state = .inKiln → ch.startTime.isSome) ∧
    (ch.remaining.isSome ↔ ch.state = .onLine ∨ ch.state = .planed)) ∧
  ∀ c, (s.chamber c).state = .cooling → ∀ k ∈ (s.chamber c).chargeSlot, ∀ ch ∈ s.charge k, ch.finalStats.isSome

/-- R2, R1: the charge-ID counter and the IDs lie in 1..65535, and the IDs present are distinct. -/
abbrev State.IdsDistinct (s : State) : Prop :=
  (1 ≤ s.chargeCounter ∧ s.chargeCounter ≤ 65535) ∧
  (∀ k, ∀ ch ∈ s.charge k, 1 ≤ ch.id ∧ ch.id ≤ 65535) ∧
  ∀ j k, ∀ a ∈ s.charge j, ∀ b ∈ s.charge k, a.id = b.id → j = k

/-- R17, R109: graded is packed plus wet plus rejected plus unseen plus the charge's FIFO records; remaining is what is left of
declared and overrun what passed it, and a charge that was never drawn has every count 0. -/
abbrev State.CountsAgree (s : State) : Prop :=
  ∀ k, ∀ ch ∈ s.charge k,
    ch.graded = ch.packed + ch.wet + ch.rejected + ch.unseen + s.fifo.countP (fun b => b.slot == k) ∧
    (∀ r ∈ ch.remaining, r = ch.declared - ch.graded ∧ ch.overrun = ch.graded - ch.declared) ∧
    (ch.remaining = none → ch.graded = 0 ∧ ch.overrun = 0)

/-- No charge's count is within one grading of 4,294,967,295, past which R5 states no value (log entry 7). -/
abbrev State.CountsBelowTop (s : State) : Prop := ∀ k, ∀ ch ∈ s.charge k, ch.graded + 16 ≤ 4294967295

/-! ### Packs -/

/-- R126, R137: at most one pack is OPEN; it belongs to the drawn charge and has no label; every other pack has its label and no
charge slot. -/
abbrev State.PacksHeld (s : State) : Prop :=
  (∀ i j, ∀ p ∈ s.pack i, ∀ q ∈ s.pack j, p.state = .opened → q.state = .opened → i = j) ∧
  ∀ i, ∀ p ∈ s.pack i,
    (p.state = .opened → p.label = none ∧ ∃ d ∈ s.draw, p.chargeSlot = some d.slot) ∧
    (p.state ≠ .opened → p.label.isSome ∧ p.chargeSlot = none)

/-- R122: the ranges of the pack plan. -/
abbrev PackPlan.InRange (p : PackPlan) : Prop :=
  (10 ≤ p.thickness ∧ p.thickness ≤ 100) ∧ (50 ≤ p.width ∧ p.width ≤ 300) ∧ (10 ≤ p.target ∧ p.target ≤ 500) ∧
  (60 ≤ p.minLength ∧ p.minLength ≤ 600) ∧ (60 ≤ p.nominalLength ∧ p.nominalLength ≤ 900) ∧
  (10 ≤ p.silence ∧ p.silence ≤ 3600)

/-- R112, R129, R131: a pack holds at least one board and at most its target, an OPEN one fewer; boards equals measured plus
unmeasured; MC sum, maximum MC and total length are within what the boards allow. The plan and the FIFO records are in range. -/
abbrev State.PacksInRange (s : State) : Prop :=
  s.plan.InRange ∧
  (∀ b ∈ s.fifo, (60 ≤ b.length ∧ b.length ≤ 900) ∧ ∀ m ∈ b.mc, m ≤ 600) ∧
  ∀ i, ∀ p ∈ s.pack i, p.boards = p.measured + p.unmeasured ∧ (1 ≤ p.boards ∧ p.boards ≤ p.target ∧ p.target ≤ 500) ∧
    (p.state = .opened → p.boards < p.target) ∧ p.mcSum ≤ 600 * p.measured ∧ p.totalLength ≤ 900 * p.boards ∧
    ∀ m ∈ p.maxMc, m ≤ 600

/-- A pack slot holds a pack in this state. -/
def State.packIn (s : State) (st : PackState) (k : Fin 16) : Bool :=
  match s.pack k with
  | some p => p.state == st
  | none => false

/-- R143: the label queue holds each CLOSED and ISSUED pack once and no other, and every ISSUED pack stands before every CLOSED
one. -/
abbrev State.LabelsQueued (s : State) : Prop :=
  s.labelQueue.Nodup ∧ (∀ k, k ∈ s.labelQueue ↔ s.packIn .closed k = true ∨ s.packIn .issued k = true) ∧
  s.labelQueue.Pairwise (fun a b => s.packIn .issued b = true → s.packIn .issued a = true)

/-- R124, R128: the pack-number counter and the pack numbers lie in 1..65535, and the numbers present are distinct. -/
abbrev State.PackNumbersDistinct (s : State) : Prop :=
  (1 ≤ s.packCounter ∧ s.packCounter ≤ 65535) ∧
  (∀ k, ∀ p ∈ s.pack k, 1 ≤ p.number ∧ p.number ≤ 65535) ∧
  ∀ j k, ∀ a ∈ s.pack j, ∀ b ∈ s.pack k, a.number = b.number → j = k

/-- R130: a tally that is stuck is blocked. -/
abbrev State.BlockKept (s : State) : Prop := s.tallyStuck = true → s.blocked = true

/-! ### A sound state -/

/-- Every waiting command is well formed. -/
abbrev State.PendingWellFormed (s : State) : Prop := ∀ i ∈ s.pending, i.wf = true

/-- A state in which every link a command reads leads to a record: from it no step stops. -/
structure State.Sound (s : State) : Prop where
  linked : s.Linked
  recordsValid : s.RecordsValid
  recordsHeld : s.RecordsHeld
  onAStep : s.OnAStep
  historyPresent : s.HistoryPresent
  packsHeld : s.PacksHeld
  pendingWellFormed : s.PendingWellFormed

end Sys2Proof.Machine
end

