-- ==== Sys2Proof/Certificates/Slice0/Obligations.lean ====
section
/-! DEFINITION. The statements for the provers. A request's statement names the frame by its port, its tag and the bytes after
the tag; `rest` stands for the bytes beyond what the request calls for, which R151 has ignored. -/

open Sys2Proof Sys2Proof.Machine

/-! ### Steps and frames -/

/-- A step takes the command at the front of the queue and runs its meaning on the state with the rest of the queue. -/
def Obligations.StepTakesFront : Prop :=
  ∀ (i : Instr) (rest : List Instr) (s : State), s.pending = i :: rest → step s = exec i { s with pending := rest }

/-- What the part does when no command waits (log entry 2, a model's choice built on R121, R127, R164 and R167). With main power on a
draw end that is due comes next, else a tally move that is due. Otherwise one sixty-fourth of a second passes and nothing else
changes: mill time and reading ages advance in every case, ages in whole seconds that stop at 65535 (R36; log entry 20); with main
power on so do frame windows, countdowns, debounces, open times and the silence countdown. What has then come due joins the queue:
the wrap of mill time, port windows, probe and board windows, door limits, debounces, evaluation instants, line silence. -/
def Obligations.IdleStep : Prop :=
  ∀ (s : State) (wrap : List Instr) (clock : MillClock) (age : Age → Age) (probes : Vector ProbeBank 4)
    (endDue moveDue : Prop), s.pending = [] →
    (endDue ↔ ∃ d, s.draw = some d ∧ d.ending = true ∧ ∀ b ∈ s.fifo, b.slot ≠ d.slot) →
    (moveDue ↔ s.fifo ≠ [] ∧ ((∃ k p, s.pack k = some p ∧ p.state = .opened) ∨ ∃ k, s.pack k = none)) →
    wrap = (if 4294967295 ≤ s.clock.seconds ∧ 63 ≤ s.clock.sixtyFourths then [Instr.millTimeWrap] else []) →
    clock = (if 4294967295 ≤ s.clock.seconds ∧ 63 ≤ s.clock.sixtyFourths then s.clock
      else if s.clock.sixtyFourths < 63 then ⟨s.clock.seconds, s.clock.sixtyFourths + 1, s.clock.lost⟩
      else ⟨s.clock.seconds + 1, 0, s.clock.lost⟩) →
    (∀ a, age a = if a.frac < 63 then ⟨a.seconds, a.frac + 1⟩ else ⟨min (a.seconds + 1) 65535, 0⟩) →
    probes = (s.probes.map fun b => { b with
      samples := b.samples.map fun x => { x with age := age x.age }
      dryBulb := { b.dryBulb with age := age b.dryBulb.age } }) →
    (s.power.main = true → endDue → step s = .next { s with pending := [.drawEnd] }) ∧
    (s.power.main = true → ¬endDue → moveDue → step s = .next { s with pending := [.tallyMove] }) ∧
    (s.power.main = false → step s = .next { s with clock := clock, probes := probes, pending := wrap }) ∧
    ∀ (port : PortState → PortState) (link : LinkRx → LinkRx) (u : State),
      (∀ x, port x = { x with rx := match x.rx with
        | .frame e => .frame (e + 1)
        | .hunt => .hunt
        | .respond r => .respond r }) →
      (∀ x, link x = match x with
        | .frame e => .frame (e + 1)
        | .hunt => .hunt) →
      u = { s with
        clock := clock
        probes := probes
        ports := ⟨port s.ports.kiln, port s.ports.line, port s.ports.yard⟩
        probeRx := link s.probeRx
        boardRx := link s.boardRx
        chambers := s.chambers.map fun x => { x with countdown := x.countdown.map fun d =>
          if d.frac < 63 then ⟨d.seconds, d.frac + 1, d.loaded⟩ else ⟨d.seconds - 1, 0, d.loaded⟩ }
        doors := s.doors.map fun d => { d with
          debounce := d.debounce.map fun b => ⟨b.elapsed + 1, b.period⟩
          hold := d.hold.map fun h => ⟨min (h.openTime + 1) 4294967295, h.limitNotice⟩ }
        silence := s.silence.map fun x =>
          if x.frac < 63 then ⟨x.seconds, x.frac + 1, x.loaded, x.closeOnIdle⟩ else ⟨x.seconds - 1, 0, x.loaded, x.closeOnIdle⟩ } →
      s.power.main = true → ¬endDue → ¬moveDue → step s = .next { u with
        pending := wrap
          ++ ([Port.kiln, .line, .yard].filter fun p => match (u.port p).rx with
              | .frame e => decide (16 ≤ e)
              | .hunt | .respond _ => false).map Instr.portFrameWindowExpiry
          ++ (match u.probeRx with
              | .frame e => if 4 ≤ e then [Instr.probeFrameWindowExpiry] else []
              | .hunt => [])
          ++ (match u.boardRx with
              | .frame e => if 4 ≤ e then [Instr.boardFrameWindowExpiry] else []
              | .hunt => [])
          ++ (([0, 1, 2, 3] : List ChamberNo).filter fun c => match (u.monitor c).hold with
              | some h => decide ((u.chamber c).state = .doorHold ∧ (u.chamber c).settings.doorLimit * 3840 < h.openTime ∧
                  h.limitNotice = false)
              | none => false).map Instr.doorLimitPassed
          ++ (([0, 1, 2, 3] : List ChamberNo).filter fun c => match (u.monitor c).debounce with
              | some b => decide (b.period ≤ b.elapsed ∧ (u.monitor c).input ≠ (u.monitor c).door)
              | none => false).map Instr.doorDebounceExpiry
          ++ (([0, 1, 2, 3] : List ChamberNo).filter fun c => match (u.chamber c).countdown with
              | some d => decide (d.seconds = 0 ∧ (u.chamber c).state ∈ [.running, .held, .doorHold, .cooling])
              | none => false).map Instr.evaluationInstant
          ++ (match u.silence with
              | some x => if x.seconds = 0 then [Instr.lineSilenceExpiry] else []
              | none => []) }

/-- A request frame as R174 lays it out is decoded into the command it stands for, and a frame whose CRC differs from the computed
value into REQUEST_FRAME_CRC_FAIL. The frames of the two WRITE rows are the same (log entry 14). The reading of the CRC is log entry 8. -/
def Obligations.FrameRoundTrip : Prop :=
  (∀ (i : Instr) (p : Port) (bytes : List Byte), i.wf = true → encodePortFrame i = some (p, bytes) →
    decodePortFrame p bytes = some (match i with
      | .writeSpecies q tag ps => .writeStaging q tag ps
      | j => j)) ∧
  ∀ (p : Port) (len hi lo : Byte) (body : List Byte), lengthByteGood len = true → body.length = len.toNat →
    crc16 (len :: body) ≠ hi ++ lo → decodePortFrame p (len :: (body ++ [hi, lo])) = some (.requestFrameCrcFail p)

/-! ### Requests at their ports -/

/-- What a port controller does with a valid request frame before any block sees it (R149, R151 to R153): outside FRAME, past the
window or with main power off its bytes are discarded; without the right it is answered NOT_PERMITTED; with a body too short
OUT_OF_RANGE; no result follows, and nothing else changes. How many bytes a body needs is read off R174 (log entry 21). -/
def Obligations.RequestDecoded : Prop :=
  ∀ (i : Instr) (p : Port) (code tag : Byte) (ps : List Byte) (r : Request) (s : State), i.wf = true →
    i.framed = some (p, code, tag, ps) → requestOfCode code = some r →
    (s.takesFrame p = false → exec i s = .next s) ∧
    (s.takesFrame p = true → r.permitted p = false → exec i s = .next (s.respond p code tag ⟨.notPermitted, []⟩)) ∧
    (s.takesFrame p = true → p = .yard → r = .write → (s.port p).cursor.table ≠ .staging → (s.port p).cursor.table ≠ .species →
      exec i s = .next (s.respond p code tag ⟨.notPermitted, []⟩)) ∧
    (s.takesFrame p = true → r.permitted p = true →
      (r = .write → (s.port p).cursor.table = .staging ∨ (s.port p).cursor.table = .species) →
      ps.length < bytesNeeded (s.port p).cursor r → exec i s = .next (s.respond p code tag ⟨.outOfRange, []⟩))

/-- A request disturbs no other port and no link: the other ports keep their receive state, cursor and mask and lose no pending
notice, and the sensor links, last sequence and last reply, power and the waiting commands are as they were. -/
def Obligations.OtherPortsUndisturbed : Prop :=
  ∀ (i : Instr) (p : Port) (code tag : Byte) (ps : List Byte) (s t : State), i.framed = some (p, code, tag, ps) →
    exec i s = .next t →
    (∀ q, q ≠ p → (t.port q).rx = (s.port q).rx ∧ (t.port q).cursor = (s.port q).cursor ∧ (t.port q).mask = (s.port q).mask ∧
      (t.port q).pending &&& (s.port q).pending = (s.port q).pending) ∧
    t.probeRx = s.probeRx ∧ t.boardRx = s.boardRx ∧ t.boardOut = s.boardOut ∧ t.lastSeq = s.lastSeq ∧
    t.lastReply = s.lastReply ∧ t.power = s.power ∧ t.baud = s.baud ∧ t.pending = s.pending

/-- The frame events of a port (R149 to R152): a start byte in HUNT opens a frame, in FRAME or RESPOND it is data or discarded; a
bad length byte, a failed CRC and the end of the window return the controller to HUNT; an unknown code is answered UNKNOWN; the
last byte of a response returns the controller to HUNT. -/
def Obligations.PortFrameEvents : Prop :=
  ∀ (p : Port) (s : State), s.power.main = true →
    ((s.port p).rx = .hunt → exec (.portStartByte p) s = .next (s.setPort p { s.port p with rx := .frame 0 })) ∧
    ((s.port p).rx ≠ .hunt → exec (.portStartByte p) s = .next s) ∧
    (∀ e, (s.port p).rx = .frame e → e < 16 →
      (∀ len : Byte, len.toNat < 2 ∨ 64 < len.toNat →
        exec (.portFrameBadLength p len) s = .next (s.setPort p { s.port p with rx := .hunt })) ∧
      exec (.requestFrameCrcFail p) s = .next (s.setPort p { s.port p with rx := .hunt }) ∧
      (∀ code tag : Byte, code = 0#8 ∨ 0x1E < code.toNat →
        exec (.unknownRequest p code tag) s =
          .next (s.setPort p { s.port p with rx := .respond ⟨code, tag, .unknown, []⟩ })) ∧
      exec (.portFrameWindowExpiry p) s = .next s) ∧
    (∀ e, (s.port p).rx = .frame e → 16 ≤ e →
      exec (.portFrameWindowExpiry p) s = .next (s.setPort p { s.port p with rx := .hunt })) ∧
    (∀ r, (s.port p).rx = .respond r → exec (.responseSent p) s = .next (s.setPort p { s.port p with rx := .hunt }))

/-- The frame events of the two sensor links (R34, R103): a start byte in HUNT opens a frame and in FRAME is data; a frame whose
window of 50 ms, four sixty-fourths, has ended is discarded, and one inside it is not. -/
def Obligations.LinkFrameEvents : Prop :=
  ∀ s : State, s.power.main = true →
    (s.probeRx = .hunt → exec .probeStartByte s = .next { s with probeRx := .frame 0 }) ∧
    (s.probeRx ≠ .hunt → exec .probeStartByte s = .next s) ∧
    (∀ e, s.probeRx = .frame e → 4 ≤ e → exec .probeFrameWindowExpiry s = .next { s with probeRx := .hunt }) ∧
    (∀ e, s.probeRx = .frame e → e < 4 → exec .probeFrameWindowExpiry s = .next s) ∧
    (s.boardRx = .hunt → exec .boardStartByte s = .next { s with boardRx := .frame 0 }) ∧
    (s.boardRx ≠ .hunt → exec .boardStartByte s = .next s) ∧
    (∀ e, s.boardRx = .frame e → 4 ≤ e → exec .boardFrameWindowExpiry s = .next { s with boardRx := .hunt }) ∧
    (∀ e, s.boardRx = .frame e → e < 4 → exec .boardFrameWindowExpiry s = .next s)

/-- SET-CURSOR places the port's cursor and sets its read mark, or is refused (R154). READ reads at the index, stepped first with
advance on and the read mark clear and 0 at or beyond the count, and clears the read mark; an empty ring answers NONE and moves
nothing (R155). The bytes of the records are laid out as log entries 6, 11 and 26 to 29 say. -/
def Obligations.CursorRequests : Prop :=
  ∀ (p : Port) (tag : Byte) (rest : List Byte) (s : State), s.takesFrame p = true →
    (∀ (tb ix ad : Byte) (table : Table) (advance : Bool), tableOfCode tb.toNat = some table → boolOfCode ad.toNat = some advance →
      ix.toNat < table.indexCount →
      exec (.setCursor p tag (tb :: ix :: ad :: rest)) s = .next
        ((s.setPort p { s.port p with cursor := ⟨table, ix.toNat, advance, true⟩ }).respond p 0x19#8 tag ⟨.ok, [tb, ix, ad]⟩)) ∧
    (∀ tb ix ad : Byte,
      (tableOfCode tb.toNat = none ∨ boolOfCode ad.toNat = none ∨
        ∃ table, tableOfCode tb.toNat = some table ∧ table.indexCount ≤ ix.toNat) →
      exec (.setCursor p tag (tb :: ix :: ad :: rest)) s = .next (s.respond p 0x19#8 tag ⟨.outOfRange, []⟩)) ∧
    (s.tableCount (s.port p).cursor.table = 0 →
      exec (.read p tag rest) s = .next (s.respond p 0x1A#8 tag
        ⟨.none, u8 (s.port p).cursor.table.code ++ u8 (s.port p).cursor.index⟩)) ∧
    (∀ i : Nat, s.tableCount (s.port p).cursor.table ≠ 0 →
      i = (let k := (s.port p).cursor.index + if (s.port p).cursor.advance = true ∧ (s.port p).cursor.readMark = false then 1 else 0
        if k < s.tableCount (s.port p).cursor.table then k else 0) →
      exec (.read p tag rest) s = .next
        ((s.setPort p { s.port p with cursor := { (s.port p).cursor with index := i, readMark := false } }).respond p 0x1A#8 tag
          ⟨.ok, u8 (s.port p).cursor.table.code ++ u8 i ++ s.tableRecord (s.port p).cursor.table i⟩))

/-- Raising a notice puts its name in the pending sets of the ports that R159 names, and changes nothing else; the names a port can
hold are those raised to it. READ-NOTICES returns the pending set and the mask and empties the set; SET-NOTICE-MASK replaces the
mask, and refuses one with a bit above the twelfth (R160); STATUS changes nothing but the port's receive state (R158); ATTN is
asserted after each exactly while the pending set and the mask meet (R161). The layout of the STATUS results is log entries 6,
11 and 28. -/
def Obligations.NoticeAndStatusRequests : Prop :=
  (∀ (s : State) (n : Notice) (bit : NoticeSet) (ports : List Port) (put : Port → PortState),
    (n, bit, ports) ∈
      [(Notice.step, 0b000000000001#12, [Port.kiln, .yard]), (.done, 0b000000000010#12, [.kiln, .yard]),
       (.door, 0b000000000100#12, [.kiln]), (.probe, 0b000000001000#12, [.kiln]), (.ring, 0b000000010000#12, [.kiln]),
       (.held, 0b000000100000#12, [.kiln, .yard]), (.draw, 0b000001000000#12, [.line, .yard]),
       (.label, 0b000010000000#12, [.yard]), (.idle, 0b000100000000#12, [.line]), (.block, 0b001000000000#12, [.line, .yard]),
       (.seq, 0b010000000000#12, [.line]), (.clock, 0b100000000000#12, [.yard])] →
    (∀ p, put p = if p ∈ ports then { s.port p with pending := (s.port p).pending ||| bit } else s.port p) →
    s.raise n = { s with ports := ⟨put .kiln, put .line, put .yard⟩ }) ∧
  (noticesOf .kiln = 0b000000111111#12 ∧ noticesOf .line = 0b011101000000#12 ∧ noticesOf .yard = 0b101011100011#12) ∧
  ∀ (p : Port) (tag : Byte) (rest : List Byte) (s : State), s.takesFrame p = true →
    (∃ t, exec (.readNotices p tag rest) s = .next t ∧
      t = (s.setPort p { s.port p with pending := 0#12 }).respond p 0x1B#8 tag
        ⟨.ok, u16 (s.port p).pending.toNat ++ u16 (s.port p).mask.toNat⟩ ∧
      t.attnPin p = false) ∧
    (∀ hi lo : Byte, nat16 hi lo < 4096 →
      ∃ t, exec (.setNoticeMask p tag (hi :: lo :: rest)) s = .next t ∧
        t = (s.setPort p { s.port p with mask := BitVec.ofNat 12 (nat16 hi lo) }).respond p 0x1C#8 tag ⟨.ok, u16 (nat16 hi lo)⟩ ∧
        (t.attnPin p = true ↔ (s.port p).pending &&& BitVec.ofNat 12 (nat16 hi lo) ≠ 0#12)) ∧
    (∀ hi lo : Byte, 4096 ≤ nat16 hi lo →
      exec (.setNoticeMask p tag (hi :: lo :: rest)) s = .next (s.respond p 0x1C#8 tag ⟨.outOfRange, []⟩)) ∧
    exec (.status p tag rest) s = .next (s.respond p 0x1D#8 tag ⟨.ok, s.statusResults p⟩)

/-! ### Charges -/

/-- NEW-CHARGE tests in the order of R9 and answers the first failure, changing nothing; taken, it writes the record of R3 to R6
into the lowest-numbered FREE slot with the assigned ID, and sets the counter after it. -/
def Obligations.NewChargeAnswers : Prop :=
  ∀ (tag sp sc d1 d0 p1 p0 : Byte) (rest : List Byte) (s : State), s.takesFrame .yard = true →
    let run := exec (.newCharge .yard tag (sp :: sc :: d1 :: d0 :: p1 :: p0 :: rest)) s
    let answer := fun (a : Answer) => Host.Outcome.next (s.respond .yard 0x0F#8 tag a)
    (8 ≤ sp.toNat ∨ 16 ≤ sc.toNat ∨ nat16 d1 d0 < 1 ∨ 20000 < nat16 d1 d0 → run = answer ⟨.outOfRange, []⟩) ∧
    ∀ (species : Fin 8) (schedule : Fin 16), sp.toNat = species.val → sc.toNat = schedule.val →
      1 ≤ nat16 d1 d0 → nat16 d1 d0 ≤ 20000 →
      ((∀ k, s.charge k ≠ none) → run = answer ⟨.tableFull, []⟩) ∧
      ∀ k : Fin 8, s.charge k = none → (∀ j, j < k → s.charge j ≠ none) →
        (s.schedules[schedule] = none → run = answer ⟨.invalid, [sc, 0#8]⟩) ∧
        (s.schedules[schedule] ≠ none → s.species[species] = none → run = answer ⟨.invalid, [sp, 1#8]⟩) ∧
        ∀ (sch : Schedule) (curve : Species), s.schedules[schedule] = some sch → s.species[species] = some curve →
          (nat16 p1 p0 ≠ 0 → (∀ j ch, s.chargeById (nat16 p1 p0) = some (j, ch) →
              ¬((ch.state = .onLine ∨ ch.state = .planed) ∧ 1 ≤ ch.wet)) → run = answer ⟨.noCharge, []⟩) ∧
          (nat16 p1 p0 = 0 ∨ (∃ j ch, s.chargeById (nat16 p1 p0) = some (j, ch) ∧
              (ch.state = .onLine ∨ ch.state = .planed) ∧ 1 ≤ ch.wet) →
            run = .next (State.respond .yard 0x0F#8 tag ⟨.ok, u16 s.assignedId ++ u8 k.val⟩
              { s with
                chargeCounter := if s.assignedId < 65535 then s.assignedId + 1 else 1
                charges := s.charges.set k (some
                  { id := s.assignedId, species := species, schedule := schedule, targetMc := sch.targetMc
                    wetMargin := sch.wetMargin, declared := nat16 d1 d0
                    parent := if nat16 p1 p0 = 0 then none else some (nat16 p1 p0), state := .assigned, chamber := none
                    startTime := none, endTime := none, lastStats := none, finalStats := none, doorOpenings := 0
                    doorSeconds := 0, graded := 0, wet := 0, rejected := 0, unseen := 0, remaining := none, overrun := 0
                    packed := 0, unmeasured := 0, firstPack := none, lastPack := none, packsClosed := 0, marks := 0#8 }) }))

/-- Charge IDs and pack numbers are given by one search (R2, R128): from the counter on, past every number present, 1 after 65535;
with a FREE record the search ends within eight or sixteen candidates at the first number not present, which lies in 1..65535. A
request finds a charge by its ID, and 0 finds none, a pack by its number, and the OPEN pack where one is OPEN. -/
def Obligations.NumbersAssigned : Prop :=
  (∀ (s : State) (n : Nat) (k : Fin 8) (ch : Charge), s.IdsDistinct →
    (s.chargeById n = some (k, ch) ↔ s.charge k = some ch ∧ ch.id = n)) ∧
  (∀ (s : State) (n : Nat) (k : Fin 16) (p : Pack), s.PackNumbersDistinct →
    (s.packByNumber n = some (k, p) ↔ s.pack k = some p ∧ p.number = n)) ∧
  (∀ (s : State) (k : Fin 16) (p : Pack), s.PacksHeld → (s.openPack = some (k, p) ↔ s.pack k = some p ∧ p.state = .opened)) ∧
  (∀ s : State, 1 ≤ s.chargeCounter → s.chargeCounter ≤ 65535 → (∃ k, s.charge k = none) →
    ∃ n < 8, s.assignedId = nextNumber^[n] s.chargeCounter ∧ (∀ m < n, s.idPresent (nextNumber^[m] s.chargeCounter) = true) ∧
      (∀ k, ∀ ch ∈ s.charge k, ch.id ≠ s.assignedId) ∧ 1 ≤ s.assignedId ∧ s.assignedId ≤ 65535) ∧
  ∀ s : State, 1 ≤ s.packCounter → s.packCounter ≤ 65535 → (∃ k, s.pack k = none) →
    ∃ n < 16, s.assignedPack = nextNumber^[n] s.packCounter ∧
      (∀ m < n, (s.packByNumber (nextNumber^[m] s.packCounter)).isSome = true) ∧
      (∀ k, ∀ p ∈ s.pack k, p.number ≠ s.assignedPack) ∧ 1 ≤ s.assignedPack ∧ s.assignedPack ≤ 65535

/-- DELETE-CHARGE frees the slot of an ASSIGNED or PLANED charge and answers its number; an ID that names no charge, 0 included, is
refused NO_CHARGE and a charge in any other state IN_USE, with nothing changed (R11). -/
def Obligations.DeleteChargeAnswers : Prop :=
  ∀ (tag hi lo : Byte) (rest : List Byte) (s : State), s.takesFrame .yard = true →
    let run := exec (.deleteCharge .yard tag (hi :: lo :: rest)) s
    (nat16 hi lo = 0 ∨ (∀ k, ∀ ch ∈ s.charge k, ch.id ≠ nat16 hi lo) →
      run = .next (s.respond .yard 0x10#8 tag ⟨.noCharge, []⟩)) ∧
    ∀ k ch, s.chargeById (nat16 hi lo) = some (k, ch) →
      (ch.state = .assigned ∨ ch.state = .planed → run = .next (State.respond .yard 0x10#8 tag ⟨.ok, u8 k.val⟩
        { s with charges := s.charges.set k none })) ∧
      (ch.state ≠ .assigned → ch.state ≠ .planed → run = .next (s.respond .yard 0x10#8 tag ⟨.inUse, []⟩))

/-! ### Schedules and species -/

/-- WRITE on STAGING from the Yard port (R23, R156): the record at the index, header or step slot, is replaced with the values
carried, unchecked; with advance on the index steps and wraps from 12 to 0; the read mark is set. The two WRITE rows are one
frame (log entry 14). -/
def Obligations.StagingWrites : Prop :=
  ∀ (tag : Byte) (ps rest : List Byte) (s : State), s.takesFrame .yard = true → (s.port .yard).cursor.table = .staging →
    ∀ i ∈ [Instr.writeStaging .yard tag ps, .writeSpecies .yard tag ps], ∀ x : PortState,
    x = { s.port .yard with cursor :=
      { table := .staging
        index := if (s.port .yard).cursor.advance = true then
            (if (s.port .yard).cursor.index < 12 then (s.port .yard).cursor.index + 1 else 0)
          else (s.port .yard).cursor.index
        advance := (s.port .yard).cursor.advance
        readMark := true } } →
    (∀ n t1 t0 w1 w0 c1 c0 m1 m0 : Byte, (s.port .yard).cursor.index = 0 →
      ps = n :: t1 :: t0 :: w1 :: w0 :: c1 :: c0 :: m1 :: m0 :: rest →
      exec i s = .next (State.respond .yard 0x11#8 tag ⟨.ok, []⟩ (State.setPort .yard x
        { s with staging := { s.staging with header := ⟨n, t1 ++ t0, w1 ++ w0, c1 ++ c0, m1 ++ m0⟩ } }))) ∧
    (∀ (t : Fin 12) (ph ba c1 c0 d1 d0 e1 e0 m1 m0 r1 r0 : Byte), (s.port .yard).cursor.index = t.val + 1 →
      ps = ph :: ba :: c1 :: c0 :: d1 :: d0 :: e1 :: e0 :: m1 :: m0 :: r1 :: r0 :: rest →
      exec i s = .next (State.respond .yard 0x11#8 tag ⟨.ok, []⟩ (State.setPort .yard x
        { s with staging := ⟨s.staging.header,
          s.staging.steps.set t ⟨ph, ba, c1 ++ c0, d1 ++ d0, e1 ++ e0, m1 ++ m0, r1 ++ r0⟩⟩ })))

/-- WRITE on SPECIES from the Yard port (R29, R156): a record that fails R30 is refused INVALID with its breakpoint and cause, a
species in use IN_USE, and both leave the cursor; else the record is replaced whole, the index steps with advance on and wraps
from 7 to 0, and the answer carries the species number. That a breakpoint is sent code first is log entry 12, and that the two WRITE
rows are one frame log entry 14. -/
def Obligations.SpeciesWrites : Prop :=
  ∀ (tag : Byte) (ps rest : List Byte) (sp : Species) (k : Fin 8) (s : State), s.takesFrame .yard = true →
    (s.port .yard).cursor.table = .species → (s.port .yard).cursor.index = k.val →
    (∀ b ∈ sp.points.toList, b.code < 65536 ∧ b.mc < 65536) → sp.coeff < 256 →
    ps = sp.points.toList.flatMap (fun b => u16 b.code ++ u16 b.mc) ++ u8 sp.coeff ++ rest →
    ∀ i ∈ [Instr.writeStaging .yard tag ps, .writeSpecies .yard tag ps],
    (∀ point cause, sp.failure = some (point, cause) →
      exec i s = .next (s.respond .yard 0x11#8 tag ⟨.invalid, u8 point ++ u8 cause⟩)) ∧
    (sp.failure = none → (∃ j, ∃ ch ∈ s.charge j, ch.state ∈ [.assigned, .loaded, .inKiln] ∧ ch.species = k) →
      exec i s = .next (s.respond .yard 0x11#8 tag ⟨.inUse, []⟩)) ∧
    (sp.failure = none → (∀ j, ∀ ch ∈ s.charge j, ch.state ∈ [.assigned, .loaded, .inKiln] → ch.species ≠ k) →
      exec i s = .next (State.respond .yard 0x11#8 tag ⟨.ok, u8 k.val⟩ (State.setPort .yard
        { s.port .yard with cursor :=
          { table := .species
            index := if (s.port .yard).cursor.advance = true then (if k.val < 7 then k.val + 1 else 0) else k.val
            advance := (s.port .yard).cursor.advance
            readMark := true } }
        { s with species := s.species.set k (some sp) })))

/-- The validation of R24 stops at the first failing check, the header before the steps in their order, and reports its STAGING
index and cause; that of R30 reports the first failing breakpoint and cause; a record that passes every check makes a VALID
schedule or species. -/
def Obligations.ValidationExact : Prop :=
  (∀ sg : Staging,
    (∀ cause, sg.failure = some (0, cause) ↔ ¬sg.header.passes cause ∧ ∀ c < cause, sg.header.passes c) ∧
    (∀ (t : Fin 12) (cause : Nat), sg.failure = some (t.val + 1, cause) ↔
      (∀ c, sg.header.passes c) ∧ t.val < sg.header.stepCount.toNat ∧ ¬sg.stepPasses t cause ∧
      (∀ c < cause, sg.stepPasses t c) ∧ ∀ e < t, ∀ c, sg.stepPasses e c) ∧
    (sg.failure = none ↔ (∀ c, sg.header.passes c) ∧ ∀ t : Fin 12, t.val < sg.header.stepCount.toNat → ∀ c, sg.stepPasses t c) ∧
    (sg.failure = none → sg.committed.Valid ∧ sg.committed.steps.length = sg.header.stepCount.toNat)) ∧
  ∀ sp : Species,
    (∀ (i : Fin 6) (cause : Nat), sp.failure = some (i.val, cause) ↔
      ¬sp.pointPasses i cause ∧ (∀ c < cause, sp.pointPasses i c) ∧ ∀ e < i, ∀ c, sp.pointPasses e c) ∧
    (sp.failure = none ↔ ∀ i c, sp.pointPasses i c) ∧
    (sp.failure = none → sp.coeff ≤ 255 → sp.Valid)

/-- COMMIT-SCHEDULE answers the first failing test of R25 and changes nothing, or copies the staging header and the step slots the
step count names into the schedule, phase and basis by their codes and every number as it stands; CLEAR-SCHEDULE empties a schedule
that is not in use, EMPTY or not (R26). -/
def Obligations.ScheduleRequests : Prop :=
  ∀ (tag b : Byte) (rest : List Byte) (s : State), s.takesFrame .yard = true →
    let commit := exec (.commitSchedule .yard tag (b :: rest)) s
    let clear := exec (.clearSchedule .yard tag (b :: rest)) s
    (16 ≤ b.toNat → commit = .next (s.respond .yard 0x12#8 tag ⟨.outOfRange, []⟩) ∧
      clear = .next (s.respond .yard 0x13#8 tag ⟨.outOfRange, []⟩)) ∧
    (∀ index cause, b.toNat < 16 → s.staging.failure = some (index, cause) →
      commit = .next (s.respond .yard 0x12#8 tag ⟨.invalid, u8 index ++ u8 cause⟩)) ∧
    ∀ n : Fin 16, b.toNat = n.val →
      ((∃ j, ∃ ch ∈ s.charge j, ch.state ∈ [.assigned, .loaded, .inKiln] ∧ ch.schedule = n) →
        (s.staging.failure = none → commit = .next (s.respond .yard 0x12#8 tag ⟨.inUse, []⟩)) ∧
        clear = .next (s.respond .yard 0x13#8 tag ⟨.inUse, []⟩)) ∧
      ((∀ j, ∀ ch ∈ s.charge j, ch.state ∈ [.assigned, .loaded, .inKiln] → ch.schedule ≠ n) →
        (∀ steps : List Step, s.staging.failure = none → steps.length = s.staging.header.stepCount.toNat →
          (∀ (t : Fin 12) (st : Step) (x : StagingStep), steps[t.val]? = some st → x = s.staging.steps[t] →
            [Phase.dry, .equalize, .condition][x.phase.toNat]? = some st.phase ∧
            [Basis.wettestHalf, .mean, .driest][x.basis.toNat]? = some st.basis ∧ st.changeAt = x.changeAt.toNat ∧
            st.dryBulb = x.dryBulb.toNat ∧ st.depression = x.depression.toNat ∧ st.minDwell = x.minDwell.toNat ∧
            st.ramp = x.ramp.toNat) →
          commit = .next (State.respond .yard 0x12#8 tag ⟨.ok, [b, s.staging.header.stepCount]⟩
            { s with schedules := s.schedules.set n (some
              { targetMc := s.staging.header.targetMc.toNat, wetMargin := s.staging.header.wetMargin.toNat
                coolTemp := s.staging.header.coolTemp.toNat, coolTime := s.staging.header.coolTime.toNat, steps := steps }) })) ∧
        (s.staging.failure = none → ∃ t, commit = .next t) ∧
        clear = .next (State.respond .yard 0x13#8 tag ⟨.ok, [b]⟩ { s with schedules := s.schedules.set n none }))

/-! ### Probes and the Moisture unit -/

/-- A whole probe frame (R34, R35, R38, R40, R41, R45, R46): discarded on a bad check; ignored for a chamber or channel that does
not exist; otherwise code, arrival stamp and age are stored in every case. In a chamber that is not EMPTY an enabled sample slot
then takes a fault code or the candidate, the corrected MC plus the check offset within 0..600 (R44), by the table of R45, and the
dry-bulb slot its temperature or FAULT. -/
def Obligations.ReadingsTaken : Prop :=
  ∀ (cn ch hi lo ck : Byte) (e code : Nat) (s t : State), s.power.main = true → s.probeRx = .frame e → e < 4 →
    code = hi.toNat % 16 * 256 + lo.toNat → t = { s with probeRx := .hunt } →
    let run := exec (.probeFrame cn ch hi lo ck) s
    (cn + ch + hi + lo + ck ≠ 0#8 → run = .next t) ∧
    (cn + ch + hi + lo + ck = 0#8 →
      (4 ≤ cn.toNat ∨ 17 ≤ ch.toNat → run = .next t) ∧
      ∀ c : ChamberNo, cn.toNat = c.val →
        (∀ (i : Fin 16) (x : SampleSlot), ch.toNat = i.val →
          x = { (s.bank c).samples[i] with lastCode := some code, stamp := some s.stamp, age := ⟨0, 0⟩ } →
          ((s.chamber c).state = .empty ∨ x.trust = .off → run = .next (t.setBank c ((s.bank c).setSample i x))) ∧
          ((s.chamber c).state ≠ .empty → x.trust ≠ .off →
            (∀ cause, (code < 300 ∧ cause = .short) ∨ (1400 < code ∧ cause = .opened) →
              ∀ u, u = t.setBank c ((s.bank c).setSample i
                { x with trust := .fault cause x.trust.accepted, flags := ⟨false, false, false⟩ }) →
              run = .next (match x.trust with
                | .fault .. => u
                | .off | .new | .good _ | .suspect .. | .stale _ => (u.raise .probe).offer c (.probeFault i.val (some cause)))) ∧
            (∀ (k : Fin 8) (bound : Charge) (sp : Species) (candidate : Nat) (limits : Nat × Bool × Bool),
              300 ≤ code → code ≤ 1400 → (s.chamber c).chargeSlot = some k → s.charge k = some bound →
              s.species[bound.species] = some sp → limits = sp.rawMc code →
              (candidate : Int) =
                max 0 (min 600 ((correctedMc sp.coeff ((s.bank c).dryBulb.temperature.getD 200) limits.1 : Int) + x.offset)) →
              run = .next (t.setBank c ((s.bank c).setSample i { x with
                flags := ⟨limits.2.1, limits.2.2, (s.bank c).dryBulb.temperature.isNone⟩
                trust := match x.trust with
                  | .off => .off
                  | .new | .fault .. => .good candidate
                  | .good a | .stale a =>
                    if ((candidate : Int) - a).natAbs ≤ (s.chamber c).settings.jump then .good candidate else .suspect a candidate
                  | .suspect a held =>
                    if ((candidate : Int) - held).natAbs ≤ (s.chamber c).settings.jump then .good candidate
                    else .suspect a candidate }))))) ∧
        (∀ d : DryBulb, ch.toNat = 16 → d = { (s.bank c).dryBulb with lastCode := some code, stamp := some s.stamp, age := ⟨0, 0⟩ } →
          ((s.chamber c).state = .empty → run = .next (t.setBank c { s.bank c with dryBulb := d })) ∧
          ((s.chamber c).state ≠ .empty → code ≤ 1500 →
            run = .next (t.setBank c { s.bank c with dryBulb := { d with trust := .good code } })) ∧
          ((s.chamber c).state ≠ .empty → 1500 < code →
            ∀ u, u = t.setBank c { s.bank c with dryBulb := { d with trust := .fault d.temperature } } →
            run = .next (match d.trust with
              | .fault _ => u
              | .new | .good _ | .stale _ => (u.raise .probe).offer c (.probeFault 16 none)))))

/-- The curve stage of R42: a code outside the curve gives its end with the limit flag; in a segment the raw MC is MC_i less the
drop (d × u + floor(s/2)) divided by s, the same from every segment that holds the code, between the segment's ends, with no flag. -/
def Obligations.CurveStage : Prop :=
  ∀ (sp : Species) (code : Nat), sp.Valid →
    (code < sp.points[0].code → sp.rawMc code = (sp.points[0].mc, true, false)) ∧
    (sp.points[5].code < code → sp.rawMc code = (sp.points[5].mc, false, true)) ∧
    (sp.points[0].code ≤ code → code ≤ sp.points[5].code → ∃ i : Fin 5, sp.points[i.val].code ≤ code ∧
      code ≤ sp.points[i.val + 1].code) ∧
    (∀ (i : Fin 5) (d s u drop : Nat), sp.points[i.val].code ≤ code → code ≤ sp.points[i.val + 1].code →
      d = sp.points[i.val].mc - sp.points[i.val + 1].mc → s = sp.points[i.val + 1].code - sp.points[i.val].code →
      u = code - sp.points[i.val].code → drop = (d * u + s / 2) / s →
      1 ≤ s ∧ 1 ≤ d ∧ drop ≤ d ∧ sp.rawMc code = (sp.points[i.val].mc - drop, false, false)) ∧
    (∀ j : Fin 6, code = sp.points[j].code → sp.rawMc code = (sp.points[j].mc, false, false)) ∧
    (sp.rawMc code).1 ≤ 600

/-- The temperature stage of R43: m = c × (T − 200), q is m divided by 10 to the nearest whole number with an exact half away from
zero, F = 4096 − q clamped to 2048..6144, and the corrected MC is (raw × F + 2048) divided by 4096, remainder discarded. -/
def Obligations.TemperatureStage : Prop :=
  ∀ (c temperature raw : Nat) (m q : Int), m = (c : Int) * ((temperature : Int) - 200) →
    (0 ≤ m → 10 * q - 5 ≤ m ∧ m < 10 * q + 5) → (m < 0 → 10 * q - 5 < m ∧ m ≤ 10 * q + 5) →
    (correctedMc c temperature raw : Int) = (raw * max 2048 (min 6144 (4096 - q)) + 2048) / 4096 ∧
    (temperature = 200 ∨ c = 0 → correctedMc c temperature raw = raw) ∧
    (200 ≤ temperature → correctedMc c temperature raw ≤ raw) ∧
    (temperature ≤ 200 → raw ≤ correctedMc c temperature raw) ∧
    (2048 ≤ q → correctedMc c temperature raw = (raw * 2048 + 2048) / 4096) ∧
    (q ≤ -2048 → correctedMc c temperature raw = (raw * 6144 + 2048) / 4096) ∧
    (raw ≤ 600 → correctedMc c temperature raw ≤ 900)

/-- One computation of statistics begins with the staleness test of R47, counts the valid set of R48, is INVALID with n alone below
the minimum, and else hands R49 the accepted values. -/
def Obligations.StatisticsRequested : Prop :=
  ∀ (st : Settings) (b : ProbeBank),
    (∀ i : Fin 16, (b.computed st).samples[i] = match b.samples[i].trust with
      | .good a => if 2 * st.interval < b.samples[i].age.seconds then { b.samples[i] with trust := .stale a } else b.samples[i]
      | .off | .new | .suspect .. | .fault .. | .stale _ => b.samples[i]) ∧
    (b.computed st).dryBulb = (match b.dryBulb.trust with
      | .good a => if 2 * st.interval < b.dryBulb.age.seconds then { b.dryBulb with trust := .stale a } else b.dryBulb
      | .new | .fault _ | .stale _ => b.dryBulb) ∧
    ∀ (valid : List (Fin 16)) (values : List Nat),
      valid = (List.finRange 16).filter (fun i => match (b.computed st).samples[i].trust with
        | .good _ => true
        | .off | .new | .suspect .. | .fault .. | .stale _ => false) →
      values.map some = valid.map (fun i => (b.computed st).samples[i].trust.accepted) →
      (b.computed st).stats = ⟨valid.length, if valid.length < st.minProbes then none else some (statValues values)⟩

/-- The statistics of R49, from the n accepted values in any order taken wettest first, with k = ceil(n/2): each mean is the
nearest whole tenth, with one value all are that value, and the record carries n. -/
def Obligations.StatisticsComputed : Prop :=
  ∀ (values sorted : List Nat) (n k : Nat), values ≠ [] → sorted.Perm values → sorted.Pairwise (fun a b => b ≤ a) →
    n = values.length → k = (n + 1) / 2 →
    statValues values =
      { wettestHalf := ((sorted.take k).sum + k / 2) / k
        mean := (values.sum + n / 2) / n
        driest := sorted.getLastD 0
        wettest := sorted.headD 0
        spread := sorted.headD 0 - sorted.getLastD 0 } ∧
    (∀ minProbes ≤ n, statsOf minProbes values = ⟨n, some (statValues values)⟩) ∧
    (∀ v ∈ values, (statValues values).driest ≤ v ∧ v ≤ (statValues values).wettest) ∧
    (∀ v, values = [v] → statValues values = ⟨v, v, v, v, 0⟩) ∧
    (2 * values.sum ≤ (2 * (statValues values).mean + 1) * n ∧ 2 * n * (statValues values).mean ≤ 2 * values.sum + n) ∧
    (2 * (sorted.take k).sum ≤ (2 * (statValues values).wettestHalf + 1) * k ∧
      2 * k * (statValues values).wettestHalf ≤ 2 * (sorted.take k).sum + k)

/-- PROBE-ENABLE sets the enabled set and touches only the slots whose enablement it changes (R51); CHECK answers the first failing
test of R53, or moves the offset by MC less accepted within −50..+50 and the accepted value with it, LIMITED when the clamp
changed the sum. -/
def Obligations.ProbeRequests : Prop :=
  ∀ (tag b : Byte) (rest : List Byte) (s : State), s.takesFrame .kiln = true →
    (∀ hi lo : Byte,
      (4 ≤ b.toNat → exec (.probeEnable .kiln tag (b :: hi :: lo :: rest)) s = .next (s.respond .kiln 0x0A#8 tag ⟨.outOfRange, []⟩)) ∧
      ∀ c : ChamberNo, b.toNat = c.val → exec (.probeEnable .kiln tag (b :: hi :: lo :: rest)) s = .next
        (State.respond .kiln 0x0A#8 tag ⟨.ok, [hi, lo]⟩ (s.setBank c { s.bank c with
          samples := Vector.ofFn fun i : Fin 16 =>
            let x := (s.bank c).samples[i]
            if (hi ++ lo).getLsbD i = x.trust.enabled then x
            else { x with trust := if (hi ++ lo).getLsbD i then .new else .off, flags := ⟨false, false, false⟩ } }))) ∧
    ∀ sl hi lo : Byte,
      let run := exec (.check .kiln tag (b :: sl :: hi :: lo :: rest)) s
      (4 ≤ b.toNat ∨ 16 ≤ sl.toNat ∨ 600 < nat16 hi lo → run = .next (s.respond .kiln 0x09#8 tag ⟨.outOfRange, []⟩)) ∧
      ∀ (c : ChamberNo) (i : Fin 16), b.toNat = c.val → sl.toNat = i.val → nat16 hi lo ≤ 600 →
        ((s.chamber c).state ∉ [.running, .held, .doorHold] ∨ (∀ a, (s.bank c).samples[i].trust ≠ .good a) →
          run = .next (s.respond .kiln 0x09#8 tag ⟨.wrongState, []⟩)) ∧
        ∀ (a : Nat) (x : SampleSlot) (sum o : Int), (s.chamber c).state ∈ [.running, .held, .doorHold] →
          x = (s.bank c).samples[i] → x.trust = .good a → sum = x.offset + ((nat16 hi lo : Int) - a) →
          o = max (-50) (min 50 sum) →
          ∃ accepted : Nat, (accepted : Int) = max 0 (min 600 (a - x.offset + o)) ∧
            (o = sum → accepted = nat16 hi lo) ∧
            run = .next (State.respond .kiln 0x09#8 tag ⟨if o = sum then .ok else .limited, s16 o ++ u16 accepted⟩
              (State.offer c (.check i.val o)
                (s.setBank c ((s.bank c).setSample i { x with trust := .good accepted, offset := o }))))

/-! ### Chamber runs -/

/-- LOAD answers the first failing test of R64, or binds the charge to the chamber: both halves of the binding, the chamber record
at its values after LOAD, the probe records and statistics of R52, the ring emptied with its counter kept. -/
def Obligations.LoadAnswers : Prop :=
  ∀ (tag b hi lo : Byte) (rest : List Byte) (s : State), s.takesFrame .kiln = true →
    let run := exec (.load .kiln tag (b :: hi :: lo :: rest)) s
    (4 ≤ b.toNat → run = .next (s.respond .kiln 0x01#8 tag ⟨.outOfRange, []⟩)) ∧
    ∀ c : ChamberNo, b.toNat = c.val →
      ((s.chamber c).state ≠ .empty → run = .next (s.respond .kiln 0x01#8 tag ⟨.wrongState, []⟩)) ∧
      ((s.chamber c).state = .empty → (∀ k ch, s.chargeById (nat16 hi lo) = some (k, ch) → ch.state ≠ .assigned) →
        run = .next (s.respond .kiln 0x01#8 tag ⟨.noCharge, []⟩)) ∧
      ∀ k ch, (s.chamber c).state = .empty → s.chargeById (nat16 hi lo) = some (k, ch) → ch.state = .assigned →
        run = .next (State.respond .kiln 0x01#8 tag ⟨.ok, u8 c.val ++ u16 ch.id ++ u8 k.val⟩
          { s with
            charges := s.charges.set k (some { ch with state := .loaded, chamber := some c })
            chambers := s.chambers.set c { s.chamber c with
              state := .loaded, chargeSlot := some k, stepIndex := none, dwell := 0, drySetpoint := 200, wetSetpoint := 0
              rampAcc := 0, invalidCount := 0, queue := [], latest := ⟨0, none⟩ }
            probes := s.probes.set c
              { samples := (s.bank c).samples.map fun x => { x with
                  trust := if x.trust.enabled then .new else .off, flags := ⟨false, false, false⟩, offset := 0 }
                dryBulb := { (s.bank c).dryBulb with trust := .new }
                stats := ⟨0, none⟩ }
            rings := s.rings.set c ⟨[], (s.eventRing c).counter, false⟩ })

/-- START answers the first failing test of R65, or begins the run: statistics computed (R47 to R49), the charge IN_KILN with
ENTRY_BLIND on INVALID, the entry step and the setpoints of R67, counts 0, the countdown loaded, RUNNING, and a START event. -/
def Obligations.StartAnswers : Prop :=
  ∀ (tag b : Byte) (rest : List Byte) (s : State), s.takesFrame .kiln = true →
    let run := exec (.start .kiln tag (b :: rest)) s
    (4 ≤ b.toNat → run = .next (s.respond .kiln 0x02#8 tag ⟨.outOfRange, []⟩)) ∧
    ∀ c : ChamberNo, b.toNat = c.val →
      ((s.chamber c).state ≠ .loaded → run = .next (s.respond .kiln 0x02#8 tag ⟨.wrongState, []⟩)) ∧
      ((s.chamber c).state = .loaded → (s.monitor c).door = .opened →
        run = .next (s.respond .kiln 0x02#8 tag ⟨.doorOpen, []⟩)) ∧
      ∀ (k : Fin 8) (ch : Charge) (sch : Schedule) (bank : ProbeBank) (st : Step) (t dry : Nat),
        (s.chamber c).state = .loaded → (s.monitor c).door = .closed → (s.chamber c).chargeSlot = some k →
        s.charge k = some ch → s.schedules[ch.schedule] = some sch → bank = (s.bank c).computed (s.chamber c).settings →
        t = entryStep sch.steps bank.stats → sch.steps[t]? = some st →
        dry = (match bank.dryBulb.trust with
          | .good temperature => max 200 (min 1200 temperature)
          | .new | .fault _ | .stale _ => st.dryBulb) →
        run = .next (State.respond .kiln 0x02#8 tag ⟨.ok, u8 t ++ u8 st.phase.code ++ u16 dry ++ u16 (dry - st.depression)⟩
          (State.offer c (.start .kiln)
            { s with
              probes := s.probes.set c bank
              charges := s.charges.set k (some { ch with
                state := .inKiln, startTime := some s.clock.seconds, lastStats := some bank.stats
                marks := if bank.stats.values = none then ch.marks ||| 0b00000010#8 else ch.marks })
              chambers := s.chambers.set c { s.chamber c with
                state := .running, stepIndex := some t, drySetpoint := dry, wetSetpoint := dry - st.depression, dwell := 0
                rampAcc := 0, invalidCount := 0, latest := bank.stats
                countdown := some ⟨(s.chamber c).settings.interval, 0, (s.chamber c).settings.interval⟩ } }))

/-- The entry step of R66: 0 on INVALID statistics; else the first step that is EQUALIZE or CONDITION, has change-at 0 or has its
change-at strictly below the wettest-half mean; the last step when none qualifies. -/
def Obligations.EntryStepChosen : Prop :=
  ∀ (steps : List Step) (stats : Stats), steps ≠ [] →
    (stats.values = none → entryStep steps stats = 0) ∧
    ∀ v, stats.values = some v →
      let qualifies := fun st : Step =>
        st.phase = .equalize ∨ st.phase = .condition ∨ st.changeAt = 0 ∨ st.changeAt < v.wettestHalf
      (∀ t st, steps[t]? = some st → qualifies st → (∀ e st', e < t → steps[e]? = some st' → ¬qualifies st') →
        entryStep steps stats = t) ∧
      ((∀ st ∈ steps, ¬qualifies st) → entryStep steps stats + 1 = steps.length)

/-- HOLD, RESUME, STEP and SKIP-PHASE on arrival (R70): OUT_OF_RANGE, WRONG_STATE and QUEUE_FULL in that order, else the command
joins the queue and is answered QUEUED with the number now waiting. -/
def Obligations.RunCommandsQueued : Prop :=
  ∀ (tag b : Byte) (rest : List Byte) (s : State), s.takesFrame .kiln = true →
    ∀ (i : Instr) (cmd : RunCommand) (code : Byte),
      (i, cmd, code) ∈ [(Instr.hold .kiln tag (b :: rest), RunCommand.hold, 0x03#8), (.resume .kiln tag (b :: rest), .resume, 0x04#8),
        (.step .kiln tag (b :: rest), .step, 0x05#8), (.skipPhase .kiln tag (b :: rest), .skipPhase, 0x06#8)] →
      (4 ≤ b.toNat → exec i s = .next (s.respond .kiln code tag ⟨.outOfRange, []⟩)) ∧
      ∀ c : ChamberNo, b.toNat = c.val →
        ((s.chamber c).state ∉ [.running, .held, .doorHold] → exec i s = .next (s.respond .kiln code tag ⟨.wrongState, []⟩)) ∧
        ((s.chamber c).state ∈ [.running, .held, .doorHold] → 4 ≤ (s.chamber c).queue.length →
          exec i s = .next (s.respond .kiln code tag ⟨.queueFull, []⟩)) ∧
        ((s.chamber c).state ∈ [.running, .held, .doorHold] → (s.chamber c).queue.length < 4 →
          exec i s = .next (State.respond .kiln code tag ⟨.queued, u8 ((s.chamber c).queue.length + 1)⟩
            { s with chambers := s.chambers.set c { s.chamber c with queue := (s.chamber c).queue ++ [cmd] } }))

/-- An entry to COOLING (R83, R84): final statistics frozen from the latest, the cooling setpoints, dwell, accumulator and return
state cleared, the queue emptied, any door hold ended; then the COOLING event, the STEP notice unless the cause is ABORT, and with a
cooling time of 0 the completion: DRIED with its end time, DONE, the COMPLETE event, no countdown. That the COOLING entry then shows
COOLING and not COMPLETE is log entry 18, read from the sentence of R95 "A COOLING event shows COOLING with the last step". -/
def Obligations.CoolingEntered : Prop :=
  ∀ (c : ChamberNo) (k : Fin 8) (ch : Charge) (cause : CoolingCause) (temp time : Nat) (s : State),
    (s.chamber c).chargeSlot = some k → s.charge k = some ch →
    s.intoCooling c temp =
      { s with
        charges := s.charges.set k (some { ch with finalStats := some (s.chamber c).latest })
        chambers := s.chambers.set c { s.chamber c with
          state := .cooling, returnState := none, dwell := 0, drySetpoint := temp, rampAcc := 0, wetSetpoint := 0, queue := [] }
        doors := s.doors.set c { s.monitor c with hold := none } } ∧
    (∀ t, t = (if cause = .abort then s.offer c (.cooling cause) else (s.offer c (.cooling cause)).raise .step) →
      (time ≠ 0 → s.coolingEvents c cause time = t) ∧
      (time = 0 → s.coolingEvents c cause time = State.offer c .complete (State.raise .done
        { t with
          charges := s.charges.set k (some { ch with state := .dried, endTime := some s.clock.seconds })
          chambers := s.chambers.set c { s.chamber c with state := .complete, countdown := none } })))

/-- ABORT marks the charge and enters COOLING at once (R68); RELEASE unbinds the charge of a LOADED or COMPLETE chamber, which
returns to ASSIGNED or becomes RELEASED (R69). Each answers the first failing test and then changes nothing. -/
def Obligations.AbortAndRelease : Prop :=
  ∀ (tag b : Byte) (rest : List Byte) (s : State), s.takesFrame .kiln = true →
    let abort := exec (.abort .kiln tag (b :: rest)) s
    let release := exec (.release .kiln tag (b :: rest)) s
    (4 ≤ b.toNat → abort = .next (s.respond .kiln 0x07#8 tag ⟨.outOfRange, []⟩) ∧
      release = .next (s.respond .kiln 0x08#8 tag ⟨.outOfRange, []⟩)) ∧
    ∀ c : ChamberNo, b.toNat = c.val →
      ((s.chamber c).state ∉ [.running, .held, .doorHold] → abort = .next (s.respond .kiln 0x07#8 tag ⟨.wrongState, []⟩)) ∧
      ((s.chamber c).state ∉ [.loaded, .complete] → release = .next (s.respond .kiln 0x08#8 tag ⟨.wrongState, []⟩)) ∧
      ∀ (k : Fin 8) (ch : Charge), (s.chamber c).chargeSlot = some k → s.charge k = some ch →
        (∀ sch, (s.chamber c).state ∈ [.running, .held, .doorHold] → s.schedules[ch.schedule] = some sch →
          abort = .next (State.respond .kiln 0x07#8 tag
            ⟨.ok, u8 (if sch.coolTime = 0 then ChamberState.complete else .cooling).code⟩
            (State.coolingEvents c .abort sch.coolTime (State.intoCooling c sch.coolTemp
              { s with charges := s.charges.set k (some { ch with marks := ch.marks ||| 0b00000001#8 }) })))) ∧
        (∀ st, ((s.chamber c).state = .loaded ∧ st = .assigned) ∨ ((s.chamber c).state = .complete ∧ st = .released) →
          release = .next (State.respond .kiln 0x08#8 tag ⟨.ok, u16 ch.id ++ u8 st.code⟩
            { s with
              charges := s.charges.set k (some { ch with state := st, chamber := none })
              chambers := s.chambers.set c { s.chamber c with state := .empty, chargeSlot := none, stepIndex := none } }))

/-- CHAMBER-SET and PACK-PLAN check their values in the order of R59 and R122 and refuse the first outside its range with its index,
or replace every setting together (R85, R123). That the debounce setting travels as a code 0..3 is log entry 23. -/
def Obligations.SettingsRequests : Prop :=
  (∀ (tag b i1 i0 mp j1 j0 d1 d0 db md en pol : Byte) (rest : List Byte) (s : State), s.takesFrame .kiln = true →
    let run := exec (.chamberSet .kiln tag (b :: i1 :: i0 :: mp :: j1 :: j0 :: d1 :: d0 :: db :: md :: en :: pol :: rest)) s
    let inRange : Nat → Prop := fun
      | 0 => 60 ≤ nat16 i1 i0 ∧ nat16 i1 i0 ≤ 3600
      | 1 => 1 ≤ mp.toNat ∧ mp.toNat ≤ 16
      | 2 => 10 ≤ nat16 j1 j0 ∧ nat16 j1 j0 ≤ 200
      | 3 => 1 ≤ nat16 d1 d0 ∧ nat16 d1 d0 ≤ 240
      | 4 => db.toNat ≤ 3
      | 5 => md.toNat ≤ 1
      | 6 => en.toNat < 32
      | 7 => pol.toNat ≤ 1
      | _ => True
    (4 ≤ b.toNat → run = .next (s.respond .kiln 0x0B#8 tag ⟨.outOfRange, []⟩)) ∧
    ∀ c : ChamberNo, b.toNat = c.val →
      (∀ n, ¬inRange n → (∀ m < n, inRange m) → run = .next (s.respond .kiln 0x0B#8 tag ⟨.outOfRange, u8 n⟩)) ∧
      ∀ debounce mode policy, (∀ n, inRange n) → debounceOfCode db.toNat = some debounce → ringModeOfCode md.toNat = some mode →
        ringPolicyOfCode pol.toNat = some policy →
        run = .next (State.respond .kiln 0x0B#8 tag ⟨.ok, [b]⟩
          { s with chambers := s.chambers.set c { s.chamber c with settings :=
            { interval := nat16 i1 i0, minProbes := mp.toNat, jump := nat16 j1 j0, doorLimit := nat16 d1 d0, debounce := debounce
              ringMode := mode, ringEnables := en.setWidth 5, ringPolicy := policy } } })) ∧
  ∀ (tag th w1 w0 t1 t0 m1 m0 n1 n0 idle s1 s0 : Byte) (rest : List Byte) (s : State), s.takesFrame .yard = true →
    let run := exec (.packPlan .yard tag (th :: w1 :: w0 :: t1 :: t0 :: m1 :: m0 :: n1 :: n0 :: idle :: s1 :: s0 :: rest)) s
    let inRange : Nat → Prop := fun
      | 0 => 10 ≤ th.toNat ∧ th.toNat ≤ 100
      | 1 => 50 ≤ nat16 w1 w0 ∧ nat16 w1 w0 ≤ 300
      | 2 => 10 ≤ nat16 t1 t0 ∧ nat16 t1 t0 ≤ 500
      | 3 => 60 ≤ nat16 m1 m0 ∧ nat16 m1 m0 ≤ 600
      | 4 => 60 ≤ nat16 n1 n0 ∧ nat16 n1 n0 ≤ 900
      | 5 => idle.toNat ≤ 1
      | 6 => 10 ≤ nat16 s1 s0 ∧ nat16 s1 s0 ≤ 3600
      | _ => True
    (∀ n, ¬inRange n → (∀ m < n, inRange m) → run = .next (s.respond .yard 0x14#8 tag ⟨.outOfRange, u8 n⟩)) ∧
    ((∀ n, inRange n) → run = .next (State.respond .yard 0x14#8 tag ⟨.ok, []⟩
      { s with plan :=
        { thickness := th.toNat, width := nat16 w1 w0, target := nat16 t1 t0, minLength := nat16 m1 m0
          nominalLength := nat16 n1 n0, closeOnIdle := decide (idle = 1#8), silence := nat16 s1 s0 } }))

/-- Evaluation instants that make no run stage (R75, R76, R82, R84): in DOOR_HOLD, in HELD with an empty queue and in COOLING the
statistics are computed and copied, the invalid count moves and the countdown is loaded; in COOLING the loaded interval joins dwell,
and the cooling time completes the chamber. Without a countdown at 0 the event has no effect. -/
def Obligations.InstantsWithoutRunStage : Prop :=
  ∀ (c : ChamberNo) (s : State), s.power.main = true →
    (((s.chamber c).countdown = none ∨ ∃ d, (s.chamber c).countdown = some d ∧ d.seconds ≠ 0) →
      exec (.evaluationInstant c) s = .next s) ∧
    ∀ (loaded frac : Nat) (k : Fin 8) (ch : Charge) (sch : Schedule) (t : Nat) (b : ProbeBank) (x : Chamber),
      (s.chamber c).countdown = some ⟨0, frac, loaded⟩ → (s.chamber c).chargeSlot = some k → s.charge k = some ch →
      s.schedules[ch.schedule] = some sch → (s.chamber c).stepIndex = some t → t < sch.steps.length →
      b = (s.bank c).computed (s.chamber c).settings →
      x = { s.chamber c with
        latest := b.stats
        invalidCount := if b.stats.values = none then min ((s.chamber c).invalidCount + 1) 65535 else 0
        countdown := some ⟨(s.chamber c).settings.interval, 0, (s.chamber c).settings.interval⟩ } →
      ((s.chamber c).state = .doorHold ∨ ((s.chamber c).state = .held ∧ (s.chamber c).queue = []) →
        exec (.evaluationInstant c) s = .next { s with
          probes := s.probes.set c b
          charges := s.charges.set k (some { ch with lastStats := some b.stats })
          chambers := s.chambers.set c x }) ∧
      (∀ dwell, (s.chamber c).state = .cooling → dwell = min ((s.chamber c).dwell + loaded) 4294967295 →
        (dwell < sch.coolTime * 60 → exec (.evaluationInstant c) s = .next { s with
          probes := s.probes.set c b
          charges := s.charges.set k (some { ch with lastStats := some b.stats })
          chambers := s.chambers.set c { x with dwell := dwell } }) ∧
        (sch.coolTime * 60 ≤ dwell → exec (.evaluationInstant c) s = .next (State.offer c .complete (State.raise .done { s with
          probes := s.probes.set c b
          charges := s.charges.set k (some { ch with
            lastStats := some b.stats, state := .dried, endTime := some s.clock.seconds })
          chambers := s.chambers.set c { x with dwell := dwell, state := .complete, countdown := none } }))))

/-- An evaluation instant of a RUNNING chamber with no command waiting (R75, R76, R78 to R81): statistics; the hold at the blind
limit; else dwell, the advance test, and the ramp and wet-bulb setpoint of the step now current, or COOLING past the last step; then
the countdown load. -/
def Obligations.RunningInstant : Prop :=
  ∀ (c : ChamberNo) (s : State) (loaded frac count dwell : Nat) (k : Fin 8) (ch : Charge) (sch : Schedule) (t : Nat) (st : Step)
    (b : ProbeBank) (x : Chamber) (u : State) (cd : Countdown),
    s.power.main = true → (s.chamber c).state = .running → (s.chamber c).queue = [] →
    (s.chamber c).countdown = some ⟨0, frac, loaded⟩ → (s.chamber c).chargeSlot = some k → s.charge k = some ch →
    s.schedules[ch.schedule] = some sch → (s.chamber c).stepIndex = some t → sch.steps[t]? = some st →
    b = (s.bank c).computed (s.chamber c).settings →
    count = (if b.stats.values = none then min ((s.chamber c).invalidCount + 1) 65535 else 0) →
    dwell = min ((s.chamber c).dwell + loaded) 4294967295 →
    cd = ⟨(s.chamber c).settings.interval, 0, (s.chamber c).settings.interval⟩ →
    x = { s.chamber c with latest := b.stats, invalidCount := count } →
    u = { s with probes := s.probes.set c b, charges := s.charges.set k (some { ch with lastStats := some b.stats }) } →
    let advances := st.minDwell * 60 ≤ dwell ∧ (st.changeAt = 0 ∨ ∃ v, b.stats.values = some v ∧
      (match st.basis with
        | .wettestHalf => v.wettestHalf
        | .mean => v.mean
        | .driest => v.driest) ≤ st.changeAt)
    (6 ≤ count → exec (.evaluationInstant c) s = .next (State.modChamber c (fun y => { y with countdown := some cd })
      (State.offer c (.autoHold .lowProbes) (State.raise .held (State.raise .probe { u with
        charges := s.charges.set k (some { ch with lastStats := some b.stats, marks := ch.marks ||| 0b00000100#8 })
        chambers := s.chambers.set c { x with state := .held } }))))) ∧
    (count < 6 → ¬advances → ∀ m, m = rampMove st.ramp loaded st.dryBulb x.drySetpoint x.rampAcc →
      exec (.evaluationInstant c) s = .next { u with chambers := s.chambers.set c { x with
        dwell := dwell, drySetpoint := m.1, rampAcc := m.2, wetSetpoint := m.1 - st.depression, countdown := some cd } }) ∧
    (count < 6 → advances → ∀ next m, sch.steps[t + 1]? = some next → m = rampMove next.ramp loaded next.dryBulb x.drySetpoint 0 →
      exec (.evaluationInstant c) s = .next (State.setChamber c
        { x with
          stepIndex := some (t + 1), dwell := 0, drySetpoint := m.1, rampAcc := m.2, wetSetpoint := m.1 - next.depression
          countdown := some cd }
        (State.offer c (.step t) (State.raise .step { u with
          chambers := s.chambers.set c { x with stepIndex := some (t + 1), dwell := 0, rampAcc := 0 } })))) ∧
    (count < 6 → advances → sch.steps.length = t + 1 → ∀ v, v = State.coolingEvents c .lastStep sch.coolTime
        (State.intoCooling c sch.coolTemp { u with chambers := s.chambers.set c { x with dwell := dwell } }) →
      exec (.evaluationInstant c) s = .next (if sch.coolTime = 0 then v
        else v.modChamber c fun y => { y with countdown := some cd }))

/-- A command served at an instant (R71 to R75, R77, R78), on the state `u` that the first two stages leave, RUNNING or HELD: HOLD
and RESUME apply or have no effect; STEP and SKIP-PHASE mark MANUAL_STEP and change the step or enter COOLING. Each offers its
COMMAND event (log entry 18). The run stage follows only when the chamber is then RUNNING and the command was a HOLD or a RESUME. -/
def Obligations.RunCommandsServed : Prop :=
  ∀ (c : ChamberNo) (s u w : State) (loaded frac : Nat) (k : Fin 8) (ch : Charge) (sch : Schedule) (t : Nat) (st : Step)
    (cmd : RunCommand) (rest : List RunCommand),
    s.power.main = true → (s.chamber c).state ∈ [.running, .held] → (s.chamber c).queue = cmd :: rest →
    (s.chamber c).countdown = some ⟨0, frac, loaded⟩ → s.bound c = some (k, ch) → s.schedules[ch.schedule] = some sch →
    (s.chamber c).stepIndex = some t → sch.steps[t]? = some st → u = (s.statsStage c).countStage c →
    w = u.modChamber c (fun y => { y with queue := rest }) →
    let run := exec (.evaluationInstant c) s
    let load : State → State := State.modChamber c fun y => { y with
      countdown := some ⟨(s.chamber c).settings.interval, 0, (s.chamber c).settings.interval⟩ }
    let enter := fun state : ChamberState => w.modChamber c fun y => { y with state := state }
    let marked := w.modBound c fun y => { y with marks := y.marks ||| 0b00001000#8 }
    let toStep := fun (j : Nat) (next : Step) => State.offer c (.command cmd true) (State.raise .step
      (marked.modChamber c fun y => { y with
        stepIndex := some j, dwell := 0, rampAcc := 0, wetSetpoint := y.drySetpoint - next.depression }))
    let intoCooling := fun cause : CoolingCause => State.coolingEvents c cause sch.coolTime
      (State.offer c (.command cmd true) (marked.intoCooling c sch.coolTemp))
    let loadUnlessComplete := fun v : State => if sch.coolTime = 0 then v else load v
    (cmd = .hold → (u.chamber c).state = .running → run = .next (load (State.offer c (.command .hold true) (enter .held)))) ∧
    (cmd = .hold → (u.chamber c).state = .held → run = .next (load (w.offer c (.command .hold false)))) ∧
    (cmd = .resume → ∀ v, v = State.runStage c ⟨sch, t, st⟩ loaded (if (u.chamber c).state = .held
        then State.offer c (.command .resume true) (enter .running) else w.offer c (.command .resume false)) →
      run = .next (if (v.chamber c).state = .complete then v else load v)) ∧
    (cmd = .step → (∀ next, sch.steps[t + 1]? = some next → run = .next (load (toStep (t + 1) next))) ∧
      (sch.steps.length = t + 1 → run = .next (loadUnlessComplete (intoCooling .step)))) ∧
    (cmd = .skipPhase →
      (∀ j next, t < j → sch.steps[j]? = some next → st.phase.code < next.phase.code →
        (∀ e between, t < e → e < j → sch.steps[e]? = some between → between.phase.code ≤ st.phase.code) →
        run = .next (load (toStep j next))) ∧
      ((∀ j later, t < j → sch.steps[j]? = some later → later.phase.code ≤ st.phase.code) →
        run = .next (loadUnlessComplete (intoCooling .skipPhase))))

/-- The ramp of R80 with rate r and loaded interval L: w whole tenths of acc + r × L are moved toward the target and the rest is
kept, or the target is reached or passed and the accumulator cleared; r = 0 jumps. The setpoint stays between its old value and the
target, and the accumulator stays below 3600. -/
def Obligations.RampMoves : Prop :=
  ∀ (r loaded target setpoint acc w : Nat) (m : Nat × Nat), w = (acc + r * loaded) / 3600 →
    m = rampMove r loaded target setpoint acc →
    (r = 0 ∨ setpoint = target → m = (target, 0)) ∧
    (r ≠ 0 → setpoint < target → target ≤ setpoint + w → m = (target, 0)) ∧
    (r ≠ 0 → setpoint < target → setpoint + w < target → m = (setpoint + w, (acc + r * loaded) % 3600)) ∧
    (r ≠ 0 → target < setpoint → setpoint ≤ target + w → m = (target, 0)) ∧
    (r ≠ 0 → target < setpoint → target + w < setpoint → m = (setpoint - w, (acc + r * loaded) % 3600)) ∧
    min setpoint target ≤ m.1 ∧ m.1 ≤ max setpoint target ∧ m.2 < 3600

/-! ### Doors and rings -/

/-- Sampling of a DOOR input (R89): the opposite level begins a debounce of the setting's period, or is accepted at once with a
setting of 0; a pending debounce keeps its own period; a return to the door state's level drops it. Open time past the limit raises
the DOOR notice once per hold (R91). -/
def Obligations.DoorInputs : Prop :=
  ∀ (c : ChamberNo) (level : DoorLevel) (s : State), s.power.main = true →
    let run := exec (.doorInputChange c level) s
    let d := s.monitor c
    (level = d.door → run = .next { s with doors := s.doors.set c { d with input := level, debounce := none } }) ∧
    (level ≠ d.door → d.debounce ≠ none → run = .next { s with doors := s.doors.set c { d with input := level } }) ∧
    (∀ period, level ≠ d.door → d.debounce = none →
      (((s.chamber c).settings.debounce = .quarter ∧ period = 16) ∨ ((s.chamber c).settings.debounce = .one ∧ period = 64) ∨
        ((s.chamber c).settings.debounce = .four ∧ period = 256)) →
      run = .next { s with doors := s.doors.set c { d with input := level, debounce := some ⟨0, period⟩ } }) ∧
    (level ≠ d.door → d.debounce = none → (s.chamber c).settings.debounce = .zero →
      run = .next (State.acceptDoor c level { s with doors := s.doors.set c { d with input := level } })) ∧
    (∀ openTime, (s.chamber c).state = .doorHold → d.hold = some ⟨openTime, false⟩ →
      (s.chamber c).settings.doorLimit * 3840 < openTime → exec (.doorLimitPassed c) s =
        .next (State.raise .door { s with doors := s.doors.set c { d with hold := some ⟨openTime, true⟩ } })) ∧
    (∀ openTime noticed, d.hold = some ⟨openTime, noticed⟩ →
      (noticed = true ∨ openTime ≤ (s.chamber c).settings.doorLimit * 3840) → exec (.doorLimitPassed c) s = .next s)

/-- A debounce that reaches its period with the input at the new level is accepted (R89). An opening in RUNNING or HELD begins a
door hold with a DOOR_OPEN event of detail HOLD, and is stamped elsewhere (R90). A closing in DOOR_HOLD ends it, LONG and HELD past
the limit and else RETURNED to the return state, and is stamped elsewhere (R92). -/
def Obligations.DoorChangesAccepted : Prop :=
  ∀ (c : ChamberNo) (s : State) (d : DoorMonitor) (b : Debounce), s.power.main = true → d = s.monitor c → d.debounce = some b →
    let run := exec (.doorDebounceExpiry c) s
    (b.elapsed < b.period ∨ d.input = d.door → run = .next s) ∧
    (b.period ≤ b.elapsed → d.door = .closed → d.input = .opened →
      ((s.chamber c).state ∉ [.running, .held] → run = .next (State.offer c (.doorOpen false)
        { s with doors := s.doors.set c { d with door := .opened, debounce := none } })) ∧
      ∀ k ch ret, (s.chamber c).chargeSlot = some k → s.charge k = some ch →
        ((s.chamber c).state = .running ∧ ret = .running) ∨ ((s.chamber c).state = .held ∧ ret = .held) →
        run = .next (State.offer c (.doorOpen true)
          { s with
            doors := s.doors.set c { d with door := .opened, debounce := none, hold := some ⟨0, false⟩ }
            chambers := s.chambers.set c { s.chamber c with state := .doorHold, returnState := some ret }
            charges := s.charges.set k (some { ch with doorOpenings := min (ch.doorOpenings + 1) 65535 }) })) ∧
    (b.period ≤ b.elapsed → d.door = .opened → d.input = .closed →
      ((s.chamber c).state ≠ .doorHold → run = .next (State.offer c (.doorClose 0 .stamp)
        { s with doors := s.doors.set c { d with door := .closed, debounce := none } })) ∧
      ∀ k ch openTime noticed ret, (s.chamber c).chargeSlot = some k → s.charge k = some ch → (s.chamber c).state = .doorHold →
        d.hold = some ⟨openTime, noticed⟩ → (s.chamber c).returnState = some ret →
        ((s.chamber c).settings.doorLimit * 3840 < openTime →
          run = .next (State.offer c (.autoHold .doorLong) (State.offer c (.doorClose (openTime / 64) .long) (State.raise .held
            { s with
              doors := s.doors.set c { d with door := .closed, debounce := none, hold := none }
              chambers := s.chambers.set c { s.chamber c with state := .held, returnState := none }
              charges := s.charges.set k (some { ch with
                doorSeconds := min (ch.doorSeconds + openTime / 64) 4294967295, marks := ch.marks ||| 0b00100000#8 }) })))) ∧
        (openTime ≤ (s.chamber c).settings.doorLimit * 3840 →
          run = .next (State.offer c (.doorClose (openTime / 64) .returned)
            { s with
              doors := s.doors.set c { d with door := .closed, debounce := none, hold := none }
              chambers := s.chambers.set c { s.chamber c with
                state := if ret = .running then .running else .held, returnState := none }
              charges := s.charges.set k (some { ch with
                doorSeconds := min (ch.doorSeconds + openTime / 64) 4294967295 }) })))

/-- The group of each event kind among DOOR, RUN, PROBE, CHECK, POWER (R96), and what an offered event does (R95, R97, R98): nothing
when its group is disabled; in STOP with eight entries the overflow flag is set, with the RING notice when it was clear; else the
entry joins with the next sequence number, replacing the oldest of eight, with the RING notice under EACH, or under FULL when the
count becomes eight. -/
def Obligations.EventsRecorded : Prop :=
  ∀ (c : ChamberNo) (ev : Event) (s : State) (r : EventRing) (st : Settings) (entry : RingEntry), r = s.eventRing c →
    st = (s.chamber c).settings →
    entry = { seq := if r.counter < 65535 then r.counter + 1 else 0, time := s.stamp, timeUnsure := s.clock.lost, event := ev
              chamberState := (s.chamber c).state, stepIndex := (s.chamber c).stepIndex
              wettestHalf := (s.chamber c).latest.values.map (·.wettestHalf)
              dryBulb := (match (s.bank c).dryBulb.trust with
                | .new => none
                | .good t | .stale t => some t
                | .fault t => t) } →
    (ev.group = match ev with
      | .doorOpen _ | .doorClose _ _ => 0
      | .start _ | .command _ _ | .step _ | .cooling _ | .complete | .autoHold _ => 1
      | .probeFault _ _ => 2
      | .check _ _ | .mark _ _ => 3
      | .powerReturn _ => 4) ∧
    (st.ringEnables.getLsbD ev.group = false → s.offer c ev = s) ∧
    (st.ringEnables.getLsbD ev.group = true → r.counter ≤ 65535 →
      (r.entries.length < 8 → ∀ t, t = { s with rings := s.rings.set c ⟨r.entries ++ [entry], entry.seq, r.overflow⟩ } →
        s.offer c ev = if st.ringPolicy = .each ∨ r.entries.length = 7 then t.raise .ring else t) ∧
      (r.entries.length = 8 → st.ringMode = .overwrite →
        ∀ t, t = { s with rings := s.rings.set c ⟨r.entries.drop 1 ++ [entry], entry.seq, r.overflow⟩ } →
        s.offer c ev = if st.ringPolicy = .each then t.raise .ring else t) ∧
      (r.entries.length = 8 → st.ringMode = .stop →
        ∀ t, t = { s with rings := s.rings.set c ⟨r.entries, r.counter, true⟩ } →
        s.offer c ev = if r.overflow = true then t else t.raise .ring))

/-- MARK answers its time, and the sequence number of the entry when it was recorded; FULL with the time alone when the ring stood
full in STOP mode; the time alone when the CHECK group is disabled (R101; log entry 22). -/
def Obligations.MarkAnswers : Prop :=
  ∀ (p : Port) (tag b hi lo : Byte) (rest : List Byte) (s : State), s.takesFrame p = true →
    let run := exec (.mark p tag (b :: hi :: lo :: rest)) s
    let time := u32 s.clock.seconds ++ u8 s.clock.sixtyFourths
    (4 ≤ b.toNat → run = .next (s.respond p 0x1E#8 tag ⟨.outOfRange, []⟩)) ∧
    ∀ c : ChamberNo, b.toNat = c.val → ∀ (r : EventRing) (st : Settings), r = s.eventRing c → st = (s.chamber c).settings →
      (st.ringEnables.getLsbD 3 = false → run = .next (s.respond p 0x1E#8 tag ⟨.ok, time⟩)) ∧
      (st.ringEnables.getLsbD 3 = true → r.entries.length = 8 → st.ringMode = .stop →
        run = .next ((s.offer c (.mark (nat16 hi lo) p)).respond p 0x1E#8 tag ⟨.full, time⟩)) ∧
      (st.ringEnables.getLsbD 3 = true → r.counter ≤ 65535 → r.entries.length < 8 ∨ st.ringMode = .overwrite →
        run = .next ((s.offer c (.mark (nat16 hi lo) p)).respond p 0x1E#8 tag
          ⟨.ok, time ++ u16 (if r.counter < 65535 then r.counter + 1 else 0)⟩))

/-! ### Boards, draws and packs -/

/-- Board frames that are counted in no charge (R103, R106 to R108, R111): one that fails its check or is malformed is discarded; a
repeat is answered with last reply and changes nothing else; with no draw ACTIVE the answer is REJECT, NO_CHARGE, a resync raises
SEQ, and the closing sets last sequence, last reply and the line-silence countdown. `boardOut` is the reply being sent (log entry
19). -/
def Obligations.BoardsNotCounted : Prop :=
  ∀ (q m1 m0 l1 l0 ck : Byte) (e : Nat) (s t : State), s.power.main = true → s.boardRx = .frame e → e < 4 →
    t = { s with boardRx := .hunt } →
    let run := exec (.boardFrame q m1 m0 l1 l0 ck) s
    let good := q + m1 + m0 + l1 + l0 + ck = 0#8 ∧ (nat16 m1 m0 ≤ 600 ∨ nat16 m1 m0 = 0xFFFF) ∧
      (nat16 l1 l0 = 0 ∨ (60 ≤ nat16 l1 l0 ∧ nat16 l1 l0 ≤ 900))
    (¬good → run = .next t) ∧
    (good → s.lastSeq = some q → run = .next { t with boardOut := s.lastReply }) ∧
    (good → s.lastSeq ≠ some q → (∀ d, s.draw = some d → d.ending = true) →
      ∀ u, u = (if s.lastSeq = none ∨ ∃ l, s.lastSeq = some l ∧ 16 ≤ (q - l - 1#8).toNat then t.raise .seq else t) →
      run = .next { u with
        lastSeq := some q
        lastReply := some ⟨q, .reject, .noCharge⟩
        boardOut := some ⟨q, .reject, .noCharge⟩
        silence := some ⟨s.plan.silence, 0, s.plan.silence, s.plan.closeOnIdle⟩ })

/-- A new board of an ACTIVE draw (R107, R109 to R113, R130): graded grows by the gap and the board, remaining shrinks and what
passes it is overrun with COUNT_OVER; SHORT, WET, FULL and PACK are tried in that order; PACK places a FIFO record and lowers
LINE_READY at 28; auto-end makes the draw ENDING. Sums stay exact up to 4,294,967,295 and are free past it (log entry 7). `boardOut`
is the reply being sent (log entry 19). -/
def Obligations.BoardsCounted : Prop :=
  (∀ a b, a + b ≤ 4294967295 → addCount a b = a + b) ∧
  ∀ (q m1 m0 l1 l0 ck : Byte) (e g rem : Nat) (mc : Option Nat) (d : Draw) (ch counted : Charge) (s t u : State),
    s.power.main = true → s.boardRx = .frame e → e < 4 → t = { s with boardRx := .hunt } →
    q + m1 + m0 + l1 + l0 + ck = 0#8 →
    ((nat16 m1 m0 = 0xFFFF ∧ mc = none) ∨ (nat16 m1 m0 ≤ 600 ∧ mc = some (nat16 m1 m0))) →
    (nat16 l1 l0 = 0 ∨ (60 ≤ nat16 l1 l0 ∧ nat16 l1 l0 ≤ 900)) →
    s.draw = some d → d.ending = false → s.charge d.slot = some ch → ch.remaining = some rem →
    ((s.lastSeq = none ∧ g = 0 ∧ u = t.raise .seq) ∨
      ∃ l, s.lastSeq = some l ∧ l ≠ q ∧ (((q - l - 1#8).toNat ≤ 15 ∧ g = (q - l - 1#8).toNat ∧ u = t) ∨
        (16 ≤ (q - l - 1#8).toNat ∧ g = 0 ∧ u = t.raise .seq))) →
    counted = { ch with
      graded := addCount ch.graded (g + 1)
      unseen := addCount ch.unseen g
      remaining := some (rem - (g + 1))
      overrun := if rem < g + 1 then addCount ch.overrun (g + 1 - rem) else ch.overrun
      marks := if rem < g + 1 then ch.marks ||| 0b01000000#8 else ch.marks } →
    let run := exec (.boardFrame q m1 m0 l1 l0 ck) s
    let short := nat16 l1 l0 ≠ 0 ∧ nat16 l1 l0 < s.plan.minLength
    let wet := ∃ m, mc = some m ∧ ch.targetMc + ch.wetMargin < m
    let done := fun (disposition : Disposition) (cause : DispositionCause) (v : State) => Host.Outcome.next (State.checkBlocked
      { v with
        draw := if d.autoEnd = true ∧ 0 < rem ∧ rem ≤ g + 1 then some { d with ending := true } else s.draw
        lastSeq := some q
        lastReply := some ⟨q, disposition, cause⟩
        boardOut := some ⟨q, disposition, cause⟩
        silence := some ⟨s.plan.silence, 0, s.plan.silence, s.plan.closeOnIdle⟩ })
    let rejected := { u with
      charges := s.charges.set d.slot (some { counted with rejected := addCount ch.rejected 1 }) }
    (short → run = done .reject .short rejected) ∧
    (¬short → wet → run = done .wet .none { u with
      charges := s.charges.set d.slot (some { counted with wet := addCount ch.wet 1 }) }) ∧
    (¬short → ¬wet → 32 ≤ s.fifo.length → run = done .reject .full rejected) ∧
    (¬short → ¬wet → s.fifo.length < 32 → run = done .pack .none { u with
      charges := s.charges.set d.slot (some counted)
      fifo := s.fifo ++ [⟨d.slot, mc, if nat16 l1 l0 = 0 then s.plan.nominalLength else nat16 l1 l0⟩]
      lineReady := if s.fifo.length = 27 then false else s.lineReady })

/-- DRAW answers the first failing test of R118, or makes the draw ACTIVE and the charge ON_LINE with remaining at declared;
END-DRAW makes an ACTIVE draw ENDING and is refused WRONG_STATE otherwise (R119); that the count it answers is one byte is log
entry 6. -/
def Obligations.DrawRequests : Prop :=
  ∀ (tag : Byte) (rest : List Byte) (s : State), s.takesFrame .line = true →
    (∀ hi lo auto : Byte,
      let run := exec (.draw .line tag (hi :: lo :: auto :: rest)) s
      (2 ≤ auto.toNat → run = .next (s.respond .line 0x0C#8 tag ⟨.outOfRange, []⟩)) ∧
      (auto.toNat < 2 → s.draw ≠ none → run = .next (s.respond .line 0x0C#8 tag ⟨.drawActive, []⟩)) ∧
      (auto.toNat < 2 → s.draw = none → (∀ k ch, s.chargeById (nat16 hi lo) = some (k, ch) → ch.state ≠ .released) →
        run = .next (s.respond .line 0x0C#8 tag ⟨.noCharge, []⟩)) ∧
      ∀ k ch, auto.toNat < 2 → s.draw = none → s.chargeById (nat16 hi lo) = some (k, ch) → ch.state = .released →
        run = .next (State.respond .line 0x0C#8 tag ⟨.ok, u16 ch.id ++ u8 k.val ++ u16 ch.declared⟩
          { s with
            draw := some ⟨false, k, decide (auto = 1#8)⟩
            charges := s.charges.set k (some { ch with state := .onLine, remaining := some ch.declared }) })) ∧
    ((∀ d, s.draw = some d → d.ending = true) →
      exec (.endDraw .line tag rest) s = .next (s.respond .line 0x0D#8 tag ⟨.wrongState, []⟩)) ∧
    ∀ d ch, s.draw = some d → d.ending = false → s.charge d.slot = some ch →
      exec (.endDraw .line tag rest) s = .next (State.respond .line 0x0D#8 tag
        ⟨.ok, u16 ch.id ++ u8 s.fifo.length⟩ { s with draw := some { d with ending := true } })

/-- A tally move (R127 to R130): with nothing to move or nowhere to put it, nothing; else the oldest record joins the OPEN pack, or
a pack opened in the lowest FREE record, and is counted in pack and charge; LINE_READY rises at 24, blocked becomes no, and the board
that reaches the target closes the pack. The tally is blocked exactly when R130 says, once. -/
def Obligations.TallyMoves : Prop :=
  ∀ s : State,
    ((s.fifo ≠ [] ∧ s.openPack = none ∧ (∀ k, s.pack k ≠ none) ∧ s.blocked = false →
        s.checkBlocked = State.raise .block { s with blocked := true }) ∧
      (s.fifo = [] ∨ s.openPack ≠ none ∨ (∃ k, s.pack k = none) ∨ s.blocked = true → s.checkBlocked = s)) ∧
    (s.fifo = [] ∨ (s.openPack = none ∧ ∀ k, s.pack k ≠ none) → exec .tallyMove s = .next s) ∧
    ∀ (b : BoardRecord) (rest : List BoardRecord) (ch : Charge) (add : Pack → Pack), s.power.main = true → s.fifo = b :: rest →
      s.charge b.slot = some ch →
      (add = fun p => { p with
        boards := p.boards + 1
        totalLength := p.totalLength + b.length
        unmeasured := if b.mc = none then p.unmeasured + 1 else p.unmeasured
        measured := if b.mc = none then p.measured else p.measured + 1
        mcSum := p.mcSum + b.mc.getD 0
        maxMc := match b.mc, p.maxMc with
          | none, top => top
          | some m, none => some m
          | some m, some top => some (max top m) }) →
      let counted : Charge → Charge := fun x => { x with
        packed := addCount x.packed 1
        unmeasured := if b.mc = none then addCount x.unmeasured 1 else x.unmeasured }
      let moved := fun (k : Fin 16) (p : Pack) (x : Charge) => { s with
        fifo := rest
        lineReady := if rest.length = 24 then true else s.lineReady
        blocked := false
        packs := s.packs.set k (some p)
        charges := s.charges.set b.slot (some x) }
      (∀ k p, s.openPack = some (k, p) → p.boards + 1 ≠ p.target → exec .tallyMove s = .next (moved k (add p) (counted ch))) ∧
      (∀ k p t, s.openPack = some (k, p) → p.boards + 1 = p.target →
        State.closePack .target k (add p) (moved k (add p) (counted ch)) = some t → exec .tallyMove s = .next t.checkBlocked) ∧
      ∀ k, s.openPack = none → s.pack k = none → (∀ j, j < k → s.pack j ≠ none) → s.plan.target ≠ 1 →
        exec .tallyMove s = .next { moved k
            (add { state := .opened, number := s.assignedPack, chargeSlot := some b.slot, chargeId := ch.id, parent := ch.parent
                   species := ch.species, schedule := ch.schedule, thickness := s.plan.thickness, width := s.plan.width
                   target := s.plan.target, nominalLength := s.plan.nominalLength, openTime := s.stamp, boards := 0
                   measured := 0, unmeasured := 0, mcSum := 0, maxMc := none, totalLength := 0, label := none })
            (counted { ch with firstPack := some (ch.firstPack.getD s.assignedPack) }) with
          packCounter := if s.assignedPack < 65535 then s.assignedPack + 1 else 1 }

/-- A pack close (R131) fixes the label, counts the close in the charge, drops the charge slot, queues the pack as the newest and
raises LABEL. CLOSE-PACK closes the OPEN pack or is refused NO_PACK (R132). Line-silence expiry ends the countdown, raises IDLE with
a pack OPEN, and closes it when close-on-idle was loaded (R133). -/
def Obligations.PackCloses : Prop :=
  ∀ s : State,
    (∀ (cause : CloseCause) (k : Fin 16) (p : Pack) (v : CloseView), p.chargeSlot = some v.slot → s.charge v.slot = some v.charge →
      v.charge.finalStats = some v.final → v.charge.startTime = some v.start → v.charge.endTime = some v.finish →
      v.charge.remaining = some v.remaining →
      s.closePack cause k p = some (State.raise .label { s with
        packs := s.packs.set k (some { p with
          state := .closed, chargeSlot := none, label := some (labelOf cause s.clock p v) })
        charges := s.charges.set v.slot (some { v.charge with
          lastPack := some p.number, packsClosed := min (v.charge.packsClosed + 1) 65535 })
        labelQueue := s.labelQueue ++ [k] })) ∧
    (∀ (port : Port) (tag : Byte) (rest : List Byte), port = .line ∨ port = .yard → s.takesFrame port = true →
      (s.openPack = none → exec (.closePack port tag rest) s = .next (s.respond port 0x0E#8 tag ⟨.noPack, []⟩)) ∧
      ∀ k p t, s.openPack = some (k, p) → s.closePack .closePack k p = some t →
        exec (.closePack port tag rest) s =
          .next (t.checkBlocked.respond port 0x0E#8 tag ⟨.ok, u16 p.number ++ u16 p.boards⟩)) ∧
    (s.power.main = true →
      (s.silence = none ∨ (∃ x, s.silence = some x ∧ x.seconds ≠ 0) → exec .lineSilenceExpiry s = .next s) ∧
      ∀ x, s.silence = some x → x.seconds = 0 →
        (s.openPack = none → exec .lineSilenceExpiry s = .next { s with silence := none }) ∧
        ∀ k p, s.openPack = some (k, p) →
          (x.closeOnIdle = false → exec .lineSilenceExpiry s = .next (State.raise .idle { s with silence := none })) ∧
          ∀ t, x.closeOnIdle = true → State.closePack .idle k p (State.raise .idle { s with silence := none }) = some t →
            exec .lineSilenceExpiry s = .next t.checkBlocked)

/-- The draw end (R121) is taken when the draw is ENDING and no FIFO record is of its charge: the OPEN pack closes DRAW_END, the
charge becomes PLANED with COUNT_SHORT when remaining is above 0, the draw record NONE, and DRAW is raised. Before that nothing. -/
def Obligations.DrawEnds : Prop :=
  ∀ s : State, s.power.main = true →
    (s.draw = none ∨ (∃ d, s.draw = some d ∧ (d.ending = false ∨ ∃ b ∈ s.fifo, b.slot = d.slot)) →
      exec .drawEnd s = .next s) ∧
    ∀ (d : Draw) (ch : Charge) (rem : Nat) (t : State), s.draw = some d → d.ending = true → (∀ b ∈ s.fifo, b.slot ≠ d.slot) →
      ((s.openPack = none ∧ t = s) ∨ ∃ k p, s.openPack = some (k, p) ∧ s.closePack .drawEnd k p = some t) →
      t.charge d.slot = some ch → ch.remaining = some rem →
      exec .drawEnd s = .next (State.checkBlocked (State.raise .draw { t with
        charges := t.charges.set d.slot (some { ch with
          state := .planed, marks := if 0 < rem then ch.marks ||| 0b10000000#8 else ch.marks })
        draw := none }))

/-! ### Labels -/

/-- The label a close computes (R137 to R141): volume to the nearest cubic decimetre, the mean MC between the least and the greatest
measured, the kiln history, COUNT_SHORT and the draw outcome for a DRAW_END close alone, and the first grade class whose test
passes. -/
def Obligations.LabelComputed : Prop :=
  ∀ (cause : CloseCause) (clock : MillClock) (p : Pack) (v : CloseView) (l : Label), l = labelOf cause clock p v →
    l.closeCause = cause ∧ l.closeTime = ⟨clock.seconds, clock.sixtyFourths⟩ ∧ l.timeUnsure = clock.lost ∧
    l.volume = (p.totalLength * p.thickness * p.width + 50000) / 100000 ∧
    (p.totalLength ≤ 450000 → p.thickness ≤ 100 → p.width ≤ 300 → l.volume ≤ 135000) ∧
    (p.measured = 0 → l.meanMc = none) ∧
    (p.measured ≠ 0 → l.meanMc = some ((p.mcSum + p.measured / 2) / p.measured)) ∧
    (∀ mcs : List Nat, ∀ mean, mcs ≠ [] → p.mcSum = mcs.sum → p.measured = mcs.length → l.meanMc = some mean →
      (∃ m ∈ mcs, m ≤ mean) ∧ ∃ m ∈ mcs, mean ≤ m) ∧
    l.targetMc = v.charge.targetMc ∧ l.finalWettestHalf = v.final.values.map (·.wettestHalf) ∧ l.finalCount = v.final.n ∧
    l.kilnStart = v.start ∧ l.kilnEnd = v.finish ∧ l.doorOpenings = v.charge.doorOpenings ∧
    l.doorMinutes = min ((v.charge.doorSeconds + 30) / 60) 65535 ∧
    (cause = .drawEnd → l.outcome = some ⟨v.charge.unseen, v.remaining, v.charge.overrun⟩) ∧ (cause ≠ .drawEnd → l.outcome = none) ∧
    (cause = .drawEnd → 0 < v.remaining → l.marks = v.charge.marks ||| 0b10000000#8) ∧
    (cause ≠ .drawEnd ∨ v.remaining = 0 → l.marks = v.charge.marks) ∧
    (l.grade = .c ↔ l.marks &&& 0b00000001#8 ≠ 0#8 ∨ l.meanMc = none ∨ (∃ m, l.meanMc = some m ∧ l.targetMc + 10 < m) ∨
      p.boards < p.unmeasured * 5) ∧
    (l.grade = .a ↔ l.grade ≠ .c ∧ (∃ m, l.meanMc = some m ∧ m ≤ l.targetMc) ∧ p.unmeasured * 20 ≤ p.boards ∧
      l.marks &&& 0b00111100#8 = 0#8)

/-- NEXT-LABEL issues the oldest CLOSED pack of the queue and returns its label, or answers NONE (R144); ACK-LABEL frees the oldest
ISSUED pack and refuses any other (R145); REPRINT returns an issued label and changes nothing (R146). The label is the record of 78
bytes that R176 lays out, every field at its offset. -/
def Obligations.LabelRequests : Prop :=
  (∀ (p : Pack) (l : Label) (num : Nat → Nat → List Byte) (opt : Nat → Option Nat → List Byte),
    (∀ w n, num w n = (List.range w).map fun i => BitVec.ofNat 8 (n / 256 ^ (w - 1 - i))) →
    (∀ w o, opt w o = match o with
      | none => List.replicate (w + 1) 0#8
      | some n => 1#8 :: num w n) →
    (labelRecord p l).length = 78 ∧
    ∀ field ∈ ([(0x00, num 2 p.number), (0x02, num 2 p.chargeId), (0x04, opt 2 p.parent), (0x07, num 1 p.species.val),
        (0x08, num 1 p.schedule.val), (0x09, num 1 p.thickness), (0x0A, num 2 p.width), (0x0C, num 2 p.target),
        (0x0E, num 2 p.nominalLength), (0x10, num 4 p.openTime.seconds), (0x14, num 1 p.openTime.sixtyFourths),
        (0x15, match l.closeCause with
          | .target => [0#8]
          | .closePack => [1#8]
          | .idle => [2#8]
          | .drawEnd => [3#8]),
        (0x16, num 4 l.closeTime.seconds), (0x1A, num 1 l.closeTime.sixtyFourths), (0x1B, num 2 p.boards),
        (0x1D, num 2 p.measured), (0x1F, num 2 p.unmeasured), (0x21, num 4 p.totalLength), (0x25, num 4 l.volume),
        (0x29, opt 2 l.meanMc), (0x2C, opt 2 (if p.measured = 0 then none else p.maxMc)), (0x2F, num 2 l.targetMc),
        (0x31, match l.finalWettestHalf with
          | none => [0xFF#8, 0xFF#8]
          | some m => num 2 m),
        (0x33, num 1 l.finalCount), (0x34, num 4 l.kilnStart), (0x38, num 4 l.kilnEnd), (0x3C, num 2 l.doorOpenings),
        (0x3E, num 2 l.doorMinutes), (0x40, [l.marks]),
        (0x41, match l.outcome with
          | none => List.replicate 11 0#8
          | some o => 1#8 :: (num 4 o.unseen ++ num 2 o.shortfall ++ num 4 o.overrun)),
        (0x4C, match l.grade with
          | .a => [0#8]
          | .b => [1#8]
          | .c => [2#8]),
        (0x4D, if l.timeUnsure = true then [1#8] else [0#8])] : List (Nat × List Byte)),
      ((labelRecord p l).drop field.1).take field.2.length = field.2) ∧
  ∀ (tag : Byte) (rest : List Byte) (s : State), s.takesFrame .yard = true →
    ((∀ k ∈ s.labelQueue, s.packIn .closed k = false) →
      exec (.nextLabel .yard tag rest) s = .next (s.respond .yard 0x15#8 tag ⟨.none, []⟩)) ∧
    (∀ (before after : List (Fin 16)) (k : Fin 16) (p : Pack) (l : Label), s.labelQueue = before ++ k :: after →
      (∀ j ∈ before, s.packIn .closed j = false) → s.pack k = some p → p.state = .closed → p.label = some l →
      exec (.nextLabel .yard tag rest) s = .next (State.respond .yard 0x15#8 tag ⟨.ok, labelRecord p l⟩
        { s with packs := s.packs.set k (some { p with state := .issued }) })) ∧
    ∀ hi lo : Byte,
      let ack := exec (.ackLabel .yard tag (hi :: lo :: rest)) s
      let reprint := exec (.reprint .yard tag (hi :: lo :: rest)) s
      (nat16 hi lo = 0 ∨ (∀ k, ∀ p ∈ s.pack k, p.number ≠ nat16 hi lo) →
        ack = .next (s.respond .yard 0x16#8 tag ⟨.noPack, []⟩) ∧ reprint = .next (s.respond .yard 0x17#8 tag ⟨.noPack, []⟩)) ∧
      ∀ k p, nat16 hi lo ≠ 0 → s.packByNumber (nat16 hi lo) = some (k, p) →
        (p.state ≠ .issued → ack = .next (s.respond .yard 0x16#8 tag ⟨.notIssued, []⟩) ∧
          reprint = .next (s.respond .yard 0x17#8 tag ⟨.notIssued, []⟩)) ∧
        (p.state = .issued →
          (∀ before after, s.labelQueue = before ++ k :: after → k ∉ before →
            ((∃ j ∈ before, s.packIn .issued j = true) → ack = .next (s.respond .yard 0x16#8 tag ⟨.notOldest, []⟩)) ∧
            ((∀ j ∈ before, s.packIn .issued j = false) → k ∉ after → ack = .next (State.respond .yard 0x16#8 tag
              ⟨.ok, [hi, lo] ++ u8 (before ++ after).length⟩
              { s with packs := s.packs.set k none, labelQueue := before ++ after }))) ∧
          ∀ l, p.label = some l → reprint = .next (s.respond .yard 0x17#8 tag ⟨.ok, labelRecord p l⟩))

/-! ### Clock, power and resets -/

/-- SET-TIME sets the seconds, zeroes the sixty-fourths, clears CLOCK_LOST and answers the time before and after (R165). At its last
sixty-fourth mill time wraps to 0 with CLOCK_LOST set, and CLOCK is raised when the flag was clear (R164). -/
def Obligations.ClockSetAndWrapped : Prop :=
  ∀ s : State,
    (∀ (tag b3 b2 b1 b0 : Byte) (rest : List Byte), s.takesFrame .yard = true →
      exec (.setTime .yard tag (b3 :: b2 :: b1 :: b0 :: rest)) s = .next (State.respond .yard 0x18#8 tag
        ⟨.ok, u32 s.clock.seconds ++ u8 s.clock.sixtyFourths ++ [b3, b2, b1, b0, 0#8]⟩
        { s with clock := ⟨b3.toNat * 16777216 + b2.toNat * 65536 + b1.toNat * 256 + b0.toNat, 0, false⟩ })) ∧
    (s.clock.seconds < 4294967295 ∨ s.clock.sixtyFourths < 63 → exec .millTimeWrap s = .next s) ∧
    (s.clock.seconds = 4294967295 → s.clock.sixtyFourths = 63 →
      (s.clock.lost = true → exec .millTimeWrap s = .next { s with clock := ⟨0, 0, true⟩ }) ∧
      (s.clock.lost = false → exec .millTimeWrap s = .next (State.raise .clock { s with clock := ⟨0, 0, true⟩ })))

/-- The backup-valid flag follows VBAT while main power is on, and VBAT out of range clears the hold marker while it is off, at the
loss included (R168). At the loss partial frames and what is being sent are lost (log entry 19), every record is kept, and no output is
driven. While main power is on HEAT_PERMIT is high exactly in RUNNING and HELD (R62), ATTN exactly while the pending set and the mask
meet (R161), and LINE_READY at the level State holds. -/
def Obligations.PowerLostAndVbat : Prop :=
  ∀ (s : State) (inRange : Bool),
    (s.power.main = true → (∀ c, s.heatPermitPin c = true ↔ (s.chamber c).state = .running ∨ (s.chamber c).state = .held) ∧
      (∀ p, s.attnPin p = true ↔ (s.port p).pending &&& (s.port p).mask ≠ 0#12) ∧ s.lineReadyPin = s.lineReady) ∧
    (s.power.main = false → (∀ c, s.heatPermitPin c = false) ∧ (∀ p, s.attnPin p = false) ∧ s.lineReadyPin = false) ∧
    (s.power.main = true → exec (.vbatRangeChange inRange) s =
      .next { s with power := ⟨true, inRange, inRange, s.power.holdMarker⟩ }) ∧
    (s.power.main = false → exec (.vbatRangeChange inRange) s =
      .next { s with power := ⟨false, inRange, s.power.backupValid, s.power.holdMarker && inRange⟩ }) ∧
    (s.power.main = false → exec .mainPowerLoss s = .next s) ∧
    (s.power.main = true → ∃ t, exec .mainPowerLoss s = .next t ∧
      t = { s with
        power := ⟨false, s.power.vbatInRange, s.power.backupValid, s.power.vbatInRange⟩
        ports := ⟨{ s.ports.kiln with rx := .hunt }, { s.ports.line with rx := .hunt }, { s.ports.yard with rx := .hunt }⟩
        probeRx := .hunt
        boardRx := .hunt
        boardOut := none } ∧
      (∀ c, t.heatPermitPin c = false) ∧ t.lineReadyPin = false ∧ ∀ p, t.attnPin p = false)

/-- Main power returns with the hold marker set (R169, whichever of the two rows names it): every record is kept but for what R63,
R87, R94, R113, R135 and R163 change in ports, links, countdowns, door monitors and chambers, with POWER_HOLD and the door counts
in the charges, HELD for the runs, and POWER_RETURN offered to every ring of a chamber that is not EMPTY. The old pending names are
gone: HELD and, where the ring's settings raise it, RING are all that stand pending. The two rows, the interval
loaded and what `boardOut` holds are log entries 15, 17 and 19. -/
def Obligations.PowerReturns : Prop :=
  ∀ (d0 d1 d2 d3 : DoorLevel) (s : State), s.power.main = false → s.power.holdMarker = true →
    ∃ t, exec (.powerReturn d0 d1 d2 d3) s = .next t ∧ exec (.clearedStart d0 d1 d2 d3) s = .next t ∧
      t.power = ⟨true, s.power.vbatInRange, s.power.vbatInRange, true⟩ ∧ t.pending = s.pending ∧ t.clock = s.clock ∧
      t.baud = s.baud ∧ t.probes = s.probes ∧ t.schedules = s.schedules ∧ t.staging = s.staging ∧ t.species = s.species ∧
      t.chargeCounter = s.chargeCounter ∧ t.packCounter = s.packCounter ∧ t.draw = s.draw ∧ t.plan = s.plan ∧ t.fifo = s.fifo ∧
      t.packs = s.packs ∧ t.labelQueue = s.labelQueue ∧ t.probeRx = .hunt ∧ t.boardRx = .hunt ∧ t.boardOut = none ∧
      t.lastSeq = none ∧ t.lastReply = none ∧ t.lineReady = decide (s.fifo.length ≤ 24) ∧
      (t.blocked = true ↔ s.fifo ≠ [] ∧ (∀ k, ∀ p ∈ s.pack k, p.state ≠ .opened) ∧ ∀ k, s.pack k ≠ none) ∧
      t.silence = s.silence.map (fun _ => ⟨s.plan.silence, 0, s.plan.silence, s.plan.closeOnIdle⟩) ∧
      (∀ p, (t.port p).rx = .hunt ∧ (t.port p).cursor = ⟨.chambers, 0, false, true⟩ ∧ (t.port p).mask = (s.port p).mask) ∧
      (∀ held ring : NoticeSet,
        held = (if ∃ c, (s.chamber c).state ∈ [.running, .held, .doorHold] then 0b000000100000#12 else 0#12) →
        ring = (if ∃ c, (s.chamber c).state ≠ .empty ∧ (s.chamber c).settings.ringEnables.getLsbD 4 = true ∧
          (if 8 ≤ (s.eventRing c).entries.length ∧ (s.chamber c).settings.ringMode = .stop then (s.eventRing c).overflow = false
            else (s.chamber c).settings.ringPolicy = .each ∨ (s.eventRing c).entries.length = 7) then 0b000000010000#12 else 0#12) →
        (t.port .kiln).pending = held ||| ring ∧ (t.port .line).pending = 0#12 ∧ (t.port .yard).pending = held) ∧
      (∀ k, (∀ c, (s.chamber c).chargeSlot ≠ some k) → t.charge k = s.charge k) ∧
      ∀ (c : ChamberNo) (level : DoorLevel) (state : ChamberState) (hold : Option DoorHold),
        level = [d0, d1, d2, d3].getD c.val .closed →
        ((s.chamber c).state ∈ [.running, .held] ∧ level = .closed ∧ state = .held ∧ hold = (s.monitor c).hold ∨
          (s.chamber c).state ∈ [.running, .held] ∧ level = .opened ∧ state = .doorHold ∧ hold = some ⟨0, false⟩ ∨
          (s.chamber c).state = .doorHold ∧ level = .opened ∧ state = .doorHold ∧ hold = (s.monitor c).hold ∨
          (s.chamber c).state = .doorHold ∧ level = .closed ∧ state = .held ∧ hold = none ∨
          (s.chamber c).state ∈ [.empty, .loaded, .cooling, .complete] ∧ state = (s.chamber c).state ∧
            hold = (s.monitor c).hold) →
        t.monitor c = ⟨level, level, none, hold⟩ ∧
        (∀ x, t.chamber c = x → x.state = state ∧ x.queue = [] ∧ (state = .doorHold → x.returnState = some .held) ∧
          (state = .held → (s.chamber c).state = .doorHold → x.returnState = none) ∧
          (x.countdown = if state ∈ [.held, .doorHold, .cooling] then
              some ⟨(s.chamber c).settings.interval, 0, (s.chamber c).settings.interval⟩
            else (s.chamber c).countdown) ∧
          x = { s.chamber c with
            state := x.state, returnState := x.returnState, queue := x.queue, countdown := x.countdown }) ∧
        ((s.chamber c).state = .empty → t.eventRing c = s.eventRing c) ∧
        (∀ (r : EventRing) (st : Settings) (entry : RingEntry), (s.chamber c).state ≠ .empty → r = s.eventRing c →
          st = (s.chamber c).settings →
          entry = ⟨if r.counter < 65535 then r.counter + 1 else 0, s.stamp, s.clock.lost, .powerReturn (s.chamber c).state, state,
            (s.chamber c).stepIndex, (s.chamber c).latest.values.map (·.wettestHalf), (s.bank c).dryBulb.temperature⟩ →
          (st.ringEnables.getLsbD 4 = false → t.eventRing c = r) ∧
          (st.ringEnables.getLsbD 4 = true → r.counter ≤ 65535 →
            (r.entries.length < 8 → t.eventRing c = ⟨r.entries ++ [entry], entry.seq, r.overflow⟩) ∧
            (r.entries.length = 8 → st.ringMode = .overwrite →
              t.eventRing c = ⟨r.entries.drop 1 ++ [entry], entry.seq, r.overflow⟩) ∧
            (r.entries.length = 8 → st.ringMode = .stop → t.eventRing c = ⟨r.entries, r.counter, true⟩))) ∧
        ∀ k ch, s.Linked → (s.chamber c).chargeSlot = some k → s.charge k = some ch →
          t.charge k = some
            (if (s.chamber c).state ∈ [.running, .held] ∧ level = .opened then
              { ch with marks := ch.marks ||| 0b00010000#8, doorOpenings := min (ch.doorOpenings + 1) 65535 }
            else if (s.chamber c).state ∈ [.running, .held] then { ch with marks := ch.marks ||| 0b00010000#8 }
            else if (s.chamber c).state = .doorHold ∧ level = .opened then { ch with marks := ch.marks ||| 0b00010000#8 }
            else if (s.chamber c).state = .doorHold then { ch with
              marks := if (∃ h, (s.monitor c).hold = some h ∧ (s.chamber c).settings.doorLimit * 3840 < h.openTime) then
                  ch.marks ||| 0b00110000#8 else ch.marks ||| 0b00010000#8
              doorSeconds := min (ch.doorSeconds + (((s.monitor c).hold.map (·.openTime)).getD 0) / 64) 4294967295 }
            else ch)

/-- Main power returns with the hold marker clear (R170, whichever of the two rows names it): every record takes its cleared value,
CLOCK_LOST is set and CLOCK pending at the Yard port, and the doors are as sampled. With main power on neither event does anything
(log entries 15 and 19). -/
def Obligations.ClearedStarts : Prop :=
  ∀ (d0 d1 d2 d3 : DoorLevel) (s : State),
    (s.power.main = true → exec (.clearedStart d0 d1 d2 d3) s = .next s ∧ exec (.powerReturn d0 d1 d2 d3) s = .next s) ∧
    (s.power.main = false → s.power.holdMarker = false →
      ∃ t, exec (.clearedStart d0 d1 d2 d3) s = .next t ∧ exec (.powerReturn d0 d1 d2 d3) s = .next t ∧
      t.pending = s.pending ∧ t.baud = s.baud ∧ t.power = ⟨true, s.power.vbatInRange, s.power.vbatInRange, true⟩ ∧
      t.clock = ⟨0, 0, true⟩ ∧ t.probeRx = .hunt ∧ t.boardRx = .hunt ∧ t.boardOut = none ∧ t.lastSeq = none ∧ t.lastReply = none ∧
      (∀ p, t.port p = ⟨.hunt, ⟨.chambers, 0, false, true⟩, if p = .yard then 0b100000000000#12 else 0#12, 0xFFF#12⟩) ∧
      (t.attnPin .yard = true ∧ t.attnPin .kiln = false ∧ t.attnPin .line = false) ∧
      (∀ c, t.chamber c =
        { state := .empty, returnState := none, chargeSlot := none, stepIndex := none, dwell := 0, drySetpoint := 200
          rampAcc := 0, wetSetpoint := 0, latest := ⟨0, none⟩, invalidCount := 0, queue := [], countdown := none
          settings := { interval := 300, minProbes := 4, jump := 50, doorLimit := 20, debounce := .one, ringMode := .overwrite
                        ringEnables := 0b11111#5, ringPolicy := .full } }) ∧
      (∀ (c : ChamberNo) (i : Fin 16), (t.bank c).samples[i] = ⟨.new, none, none, ⟨0, 0⟩, 0, ⟨false, false, false⟩⟩) ∧
      (∀ c, (t.bank c).dryBulb = ⟨.new, none, none, ⟨0, 0⟩⟩ ∧ (t.bank c).stats = ⟨0, none⟩) ∧
      (∀ c, t.monitor c = ⟨[d0, d1, d2, d3].getD c.val .closed, [d0, d1, d2, d3].getD c.val .closed, none, none⟩) ∧
      (∀ c, t.eventRing c = ⟨[], 0, false⟩) ∧ (∀ n : Fin 16, t.schedules[n] = none) ∧ (∀ i : Fin 8, t.species[i] = none) ∧
      t.staging.header = ⟨0, 0, 0, 0, 0⟩ ∧ (∀ n : Fin 12, t.staging.steps[n] = ⟨0, 0, 0, 0, 0, 0, 0⟩) ∧
      (∀ k, t.charge k = none) ∧ (∀ k, t.pack k = none) ∧ t.chargeCounter = 1 ∧ t.packCounter = 1 ∧ t.draw = none ∧
      t.fifo = [] ∧ t.lineReadyPin = true ∧ (∀ c, t.heatPermitPin c = false) ∧ t.silence = none ∧ t.blocked = false ∧
      t.labelQueue = [] ∧ t.plan = ⟨25, 150, 200, 180, 400, false, 300⟩)

/-- A port reset homes the cursors, empties the pending sets and the command queues, returns every link to HUNT and forgets last
sequence and last reply (R171). A clear reset does that and empties the working tables; library, species, settings, enabled probes,
plan, counters, masks and clock are kept (R172). `boardOut` is log entry 19. -/
def Obligations.Resets : Prop :=
  ∀ (s home : State), s.power.main = true →
    home = { s with
      ports := ⟨⟨.hunt, ⟨.chambers, 0, false, true⟩, 0, s.ports.kiln.mask⟩, ⟨.hunt, ⟨.chambers, 0, false, true⟩, 0, s.ports.line.mask⟩,
        ⟨.hunt, ⟨.chambers, 0, false, true⟩, 0, s.ports.yard.mask⟩⟩
      probeRx := .hunt, boardRx := .hunt, boardOut := none, lastSeq := none, lastReply := none } →
    exec .portReset s = .next { home with chambers := s.chambers.map fun x => { x with queue := [] } } ∧
    exec .clearReset s = .next { home with
      chambers := s.chambers.map fun x =>
        { state := .empty, returnState := none, chargeSlot := none, stepIndex := none, dwell := 0, drySetpoint := 200
          rampAcc := 0, wetSetpoint := 0, latest := ⟨0, none⟩, invalidCount := 0, queue := [], countdown := none
          settings := x.settings }
      probes := s.probes.map fun b =>
        { samples := b.samples.map fun x => { trust := if x.trust.enabled then .new else .off, lastCode := none, stamp := none
                                              age := ⟨0, 0⟩, offset := 0, flags := ⟨false, false, false⟩ }
          dryBulb := ⟨.new, none, none, ⟨0, 0⟩⟩
          stats := ⟨0, none⟩ }
      doors := s.doors.map fun d => { d with hold := none }
      rings := s.rings.map fun r => ⟨[], r.counter, false⟩
      charges := Vector.replicate 8 none
      draw := none, fifo := [], lineReady := true, silence := none, blocked := false
      packs := Vector.replicate 16 none
      labelQueue := [] }

/-! ### What every step keeps -/

/-- The machine right after reset (log entry 1) satisfies every invariant stated below, and the first step from it does not stop. -/
def Obligations.ResetIsSound : Prop :=
  State.reset.Sound ∧ State.reset.NoticesOwn ∧ State.reset.PowerKept ∧ State.reset.StoresFit ∧ State.reset.RingsInOrder ∧
  State.reset.BlockKept ∧ State.reset.SetpointsInRange ∧ State.reset.MoistureInRange ∧ State.reset.CountsAgree ∧
  State.reset.CountsBelowTop ∧ State.reset.PacksInRange ∧ State.reset.LabelsQueued ∧ State.reset.IdsDistinct ∧
  State.reset.PackNumbersDistinct ∧ ∃ t, step State.reset = .next t

/-- R159, R168: from any state, a step keeps that a pending set holds only names raised to its port, and that the hold marker and the
backup-valid flag follow main power and VBAT, with no frame and no response while main power is off. -/
def Obligations.PortsKept : Prop :=
  ∀ s t : State, step s = .next t → (s.NoticesOwn → t.NoticesOwn) ∧ (s.PowerKept → t.PowerKept)

/-- R70, R97, R99, R112, R130: from any state, a step keeps the FIFO within 32 records, a ring within 8 entries, a command queue
within 4 commands, ring entries consecutive up to the counter, and a stuck tally blocked. -/
def Obligations.StoresKept : Prop :=
  ∀ s t : State, step s = .next t → (s.StoresFit → t.StoresFit) ∧
    (s.StoresFit ∧ s.RingsInOrder → t.RingsInOrder) ∧ (s.BlockKept → t.BlockKept)

/-- R20, R28, R81: from any state whose schedules and species are valid and whose setpoints are in range, a step keeps every schedule
and species valid and every setpoint in range. -/
def Obligations.SetpointsKept : Prop :=
  ∀ s t : State, step s = .next t → (s.RecordsValid → t.RecordsValid) ∧
    (s.RecordsValid ∧ s.SetpointsInRange → t.SetpointsInRange)

/-- R50: from any state in which they hold, a step keeps every check offset, accepted MC and statistic in range and order, and the
chamber record's statistics equal to the Moisture unit's. -/
def Obligations.MoistureKept : Prop :=
  ∀ s t : State, step s = .next t → s.MoistureInRange → t.MoistureInRange

/-- R8, R61, R117: from any state in which every link is whole, a step leaves every link whole: neither half of a binding or of the
drawn link stands without the other, and optional fields are present exactly in their states. -/
def Obligations.LinksKept : Prop :=
  ∀ s t : State, step s = .next t → s.Linked → t.Linked

/-- A step from a sound state never stops, and leaves a sound state: every link that a command reads leads to a record (R7, R8, R27,
R112, R126, R139). -/
def Obligations.SoundNeverStops : Prop :=
  ∀ s : State, s.Sound → ∃ t, step s = .next t ∧ t.Sound

/-- R17, R109: from a sound state whose counts agree and lie below their top, a step keeps graded equal to packed plus wet plus
rejected plus unseen plus the charge's FIFO records, and remaining and overrun on their sides of declared less graded. -/
def Obligations.CountsKept : Prop :=
  ∀ s t : State, step s = .next t → s.Sound → s.CountsBelowTop → s.CountsAgree → t.CountsAgree

/-- R122, R129, R131, R143: from any state in which they hold, with packs held as R126 gives, a step keeps the plan, the FIFO records
and every pack in range, and the label queue the run of ISSUED packs and then the CLOSED ones. -/
def Obligations.PacksAndLabelsKept : Prop :=
  ∀ s t : State, step s = .next t → s.Sound → (s.PacksInRange → t.PacksInRange) ∧ (s.LabelsQueued → t.LabelsQueued)

/-- R2, R124, R128: from any state in which they are, a step keeps charge IDs and pack numbers distinct and within 1..65535. -/
def Obligations.NumbersKept : Prop :=
  ∀ s t : State, step s = .next t → (s.IdsDistinct → t.IdsDistinct) ∧ (s.PackNumbersDistinct → t.PackNumbersDistinct)
end

