-- ==== Sys2Proof/Laws/State.lean ====
section
/-! SUPPORT. What each named update of the state leaves in each field, by `rfl`, and what reading a record after replacing one gives. -/

namespace Sys2Proof.Machine

/-! ### `State.setChamber` -/

@[simp] theorem State.setChamber_pending (s : State) (c : ChamberNo) (x : Chamber) : (s.setChamber c x).pending = s.pending := rfl
@[simp] theorem State.setChamber_clock (s : State) (c : ChamberNo) (x : Chamber) : (s.setChamber c x).clock = s.clock := rfl
@[simp] theorem State.setChamber_power (s : State) (c : ChamberNo) (x : Chamber) : (s.setChamber c x).power = s.power := rfl
@[simp] theorem State.setChamber_baud (s : State) (c : ChamberNo) (x : Chamber) : (s.setChamber c x).baud = s.baud := rfl
@[simp] theorem State.setChamber_ports (s : State) (c : ChamberNo) (x : Chamber) : (s.setChamber c x).ports = s.ports := rfl
@[simp] theorem State.setChamber_probeRx (s : State) (c : ChamberNo) (x : Chamber) : (s.setChamber c x).probeRx = s.probeRx := rfl
@[simp] theorem State.setChamber_boardRx (s : State) (c : ChamberNo) (x : Chamber) : (s.setChamber c x).boardRx = s.boardRx := rfl
@[simp] theorem State.setChamber_probes (s : State) (c : ChamberNo) (x : Chamber) : (s.setChamber c x).probes = s.probes := rfl
@[simp] theorem State.setChamber_doors (s : State) (c : ChamberNo) (x : Chamber) : (s.setChamber c x).doors = s.doors := rfl
@[simp] theorem State.setChamber_rings (s : State) (c : ChamberNo) (x : Chamber) : (s.setChamber c x).rings = s.rings := rfl
@[simp] theorem State.setChamber_schedules (s : State) (c : ChamberNo) (x : Chamber) : (s.setChamber c x).schedules = s.schedules := rfl
@[simp] theorem State.setChamber_staging (s : State) (c : ChamberNo) (x : Chamber) : (s.setChamber c x).staging = s.staging := rfl
@[simp] theorem State.setChamber_species (s : State) (c : ChamberNo) (x : Chamber) : (s.setChamber c x).species = s.species := rfl
@[simp] theorem State.setChamber_charges (s : State) (c : ChamberNo) (x : Chamber) : (s.setChamber c x).charges = s.charges := rfl
@[simp] theorem State.setChamber_chargeCounter (s : State) (c : ChamberNo) (x : Chamber) : (s.setChamber c x).chargeCounter = s.chargeCounter := rfl
@[simp] theorem State.setChamber_lastSeq (s : State) (c : ChamberNo) (x : Chamber) : (s.setChamber c x).lastSeq = s.lastSeq := rfl
@[simp] theorem State.setChamber_lastReply (s : State) (c : ChamberNo) (x : Chamber) : (s.setChamber c x).lastReply = s.lastReply := rfl
@[simp] theorem State.setChamber_boardOut (s : State) (c : ChamberNo) (x : Chamber) : (s.setChamber c x).boardOut = s.boardOut := rfl
@[simp] theorem State.setChamber_draw (s : State) (c : ChamberNo) (x : Chamber) : (s.setChamber c x).draw = s.draw := rfl
@[simp] theorem State.setChamber_plan (s : State) (c : ChamberNo) (x : Chamber) : (s.setChamber c x).plan = s.plan := rfl
@[simp] theorem State.setChamber_fifo (s : State) (c : ChamberNo) (x : Chamber) : (s.setChamber c x).fifo = s.fifo := rfl
@[simp] theorem State.setChamber_lineReady (s : State) (c : ChamberNo) (x : Chamber) : (s.setChamber c x).lineReady = s.lineReady := rfl
@[simp] theorem State.setChamber_packCounter (s : State) (c : ChamberNo) (x : Chamber) : (s.setChamber c x).packCounter = s.packCounter := rfl
@[simp] theorem State.setChamber_silence (s : State) (c : ChamberNo) (x : Chamber) : (s.setChamber c x).silence = s.silence := rfl
@[simp] theorem State.setChamber_blocked (s : State) (c : ChamberNo) (x : Chamber) : (s.setChamber c x).blocked = s.blocked := rfl
@[simp] theorem State.setChamber_packs (s : State) (c : ChamberNo) (x : Chamber) : (s.setChamber c x).packs = s.packs := rfl
@[simp] theorem State.setChamber_labelQueue (s : State) (c : ChamberNo) (x : Chamber) : (s.setChamber c x).labelQueue = s.labelQueue := rfl
@[simp] theorem State.setChamber_bank (s : State) (c : ChamberNo) (x : Chamber) (d : ChamberNo) : (s.setChamber c x).bank d = s.bank d := rfl
@[simp] theorem State.setChamber_monitor (s : State) (c : ChamberNo) (x : Chamber) (d : ChamberNo) : (s.setChamber c x).monitor d = s.monitor d := rfl
@[simp] theorem State.setChamber_eventRing (s : State) (c : ChamberNo) (x : Chamber) (d : ChamberNo) : (s.setChamber c x).eventRing d = s.eventRing d := rfl
@[simp] theorem State.setChamber_charge (s : State) (c : ChamberNo) (x : Chamber) (d : Fin 8) : (s.setChamber c x).charge d = s.charge d := rfl
@[simp] theorem State.setChamber_pack (s : State) (c : ChamberNo) (x : Chamber) (d : Fin 16) : (s.setChamber c x).pack d = s.pack d := rfl
@[simp] theorem State.setChamber_port (s : State) (c : ChamberNo) (x : Chamber) (d : Port) : (s.setChamber c x).port d = s.port d := rfl

/-! ### `State.modChamber` -/

@[simp] theorem State.modChamber_pending (s : State) (c : ChamberNo) (f : Chamber → Chamber) : (s.modChamber c f).pending = s.pending := rfl
@[simp] theorem State.modChamber_clock (s : State) (c : ChamberNo) (f : Chamber → Chamber) : (s.modChamber c f).clock = s.clock := rfl
@[simp] theorem State.modChamber_power (s : State) (c : ChamberNo) (f : Chamber → Chamber) : (s.modChamber c f).power = s.power := rfl
@[simp] theorem State.modChamber_baud (s : State) (c : ChamberNo) (f : Chamber → Chamber) : (s.modChamber c f).baud = s.baud := rfl
@[simp] theorem State.modChamber_ports (s : State) (c : ChamberNo) (f : Chamber → Chamber) : (s.modChamber c f).ports = s.ports := rfl
@[simp] theorem State.modChamber_probeRx (s : State) (c : ChamberNo) (f : Chamber → Chamber) : (s.modChamber c f).probeRx = s.probeRx := rfl
@[simp] theorem State.modChamber_boardRx (s : State) (c : ChamberNo) (f : Chamber → Chamber) : (s.modChamber c f).boardRx = s.boardRx := rfl
@[simp] theorem State.modChamber_probes (s : State) (c : ChamberNo) (f : Chamber → Chamber) : (s.modChamber c f).probes = s.probes := rfl
@[simp] theorem State.modChamber_doors (s : State) (c : ChamberNo) (f : Chamber → Chamber) : (s.modChamber c f).doors = s.doors := rfl
@[simp] theorem State.modChamber_rings (s : State) (c : ChamberNo) (f : Chamber → Chamber) : (s.modChamber c f).rings = s.rings := rfl
@[simp] theorem State.modChamber_schedules (s : State) (c : ChamberNo) (f : Chamber → Chamber) : (s.modChamber c f).schedules = s.schedules := rfl
@[simp] theorem State.modChamber_staging (s : State) (c : ChamberNo) (f : Chamber → Chamber) : (s.modChamber c f).staging = s.staging := rfl
@[simp] theorem State.modChamber_species (s : State) (c : ChamberNo) (f : Chamber → Chamber) : (s.modChamber c f).species = s.species := rfl
@[simp] theorem State.modChamber_charges (s : State) (c : ChamberNo) (f : Chamber → Chamber) : (s.modChamber c f).charges = s.charges := rfl
@[simp] theorem State.modChamber_chargeCounter (s : State) (c : ChamberNo) (f : Chamber → Chamber) : (s.modChamber c f).chargeCounter = s.chargeCounter := rfl
@[simp] theorem State.modChamber_lastSeq (s : State) (c : ChamberNo) (f : Chamber → Chamber) : (s.modChamber c f).lastSeq = s.lastSeq := rfl
@[simp] theorem State.modChamber_lastReply (s : State) (c : ChamberNo) (f : Chamber → Chamber) : (s.modChamber c f).lastReply = s.lastReply := rfl
@[simp] theorem State.modChamber_boardOut (s : State) (c : ChamberNo) (f : Chamber → Chamber) : (s.modChamber c f).boardOut = s.boardOut := rfl
@[simp] theorem State.modChamber_draw (s : State) (c : ChamberNo) (f : Chamber → Chamber) : (s.modChamber c f).draw = s.draw := rfl
@[simp] theorem State.modChamber_plan (s : State) (c : ChamberNo) (f : Chamber → Chamber) : (s.modChamber c f).plan = s.plan := rfl
@[simp] theorem State.modChamber_fifo (s : State) (c : ChamberNo) (f : Chamber → Chamber) : (s.modChamber c f).fifo = s.fifo := rfl
@[simp] theorem State.modChamber_lineReady (s : State) (c : ChamberNo) (f : Chamber → Chamber) : (s.modChamber c f).lineReady = s.lineReady := rfl
@[simp] theorem State.modChamber_packCounter (s : State) (c : ChamberNo) (f : Chamber → Chamber) : (s.modChamber c f).packCounter = s.packCounter := rfl
@[simp] theorem State.modChamber_silence (s : State) (c : ChamberNo) (f : Chamber → Chamber) : (s.modChamber c f).silence = s.silence := rfl
@[simp] theorem State.modChamber_blocked (s : State) (c : ChamberNo) (f : Chamber → Chamber) : (s.modChamber c f).blocked = s.blocked := rfl
@[simp] theorem State.modChamber_packs (s : State) (c : ChamberNo) (f : Chamber → Chamber) : (s.modChamber c f).packs = s.packs := rfl
@[simp] theorem State.modChamber_labelQueue (s : State) (c : ChamberNo) (f : Chamber → Chamber) : (s.modChamber c f).labelQueue = s.labelQueue := rfl
@[simp] theorem State.modChamber_bank (s : State) (c : ChamberNo) (f : Chamber → Chamber) (d : ChamberNo) : (s.modChamber c f).bank d = s.bank d := rfl
@[simp] theorem State.modChamber_monitor (s : State) (c : ChamberNo) (f : Chamber → Chamber) (d : ChamberNo) : (s.modChamber c f).monitor d = s.monitor d := rfl
@[simp] theorem State.modChamber_eventRing (s : State) (c : ChamberNo) (f : Chamber → Chamber) (d : ChamberNo) : (s.modChamber c f).eventRing d = s.eventRing d := rfl
@[simp] theorem State.modChamber_charge (s : State) (c : ChamberNo) (f : Chamber → Chamber) (d : Fin 8) : (s.modChamber c f).charge d = s.charge d := rfl
@[simp] theorem State.modChamber_pack (s : State) (c : ChamberNo) (f : Chamber → Chamber) (d : Fin 16) : (s.modChamber c f).pack d = s.pack d := rfl
@[simp] theorem State.modChamber_port (s : State) (c : ChamberNo) (f : Chamber → Chamber) (d : Port) : (s.modChamber c f).port d = s.port d := rfl

/-! ### `State.setBank` -/

@[simp] theorem State.setBank_pending (s : State) (c : ChamberNo) (x : ProbeBank) : (s.setBank c x).pending = s.pending := rfl
@[simp] theorem State.setBank_clock (s : State) (c : ChamberNo) (x : ProbeBank) : (s.setBank c x).clock = s.clock := rfl
@[simp] theorem State.setBank_power (s : State) (c : ChamberNo) (x : ProbeBank) : (s.setBank c x).power = s.power := rfl
@[simp] theorem State.setBank_baud (s : State) (c : ChamberNo) (x : ProbeBank) : (s.setBank c x).baud = s.baud := rfl
@[simp] theorem State.setBank_ports (s : State) (c : ChamberNo) (x : ProbeBank) : (s.setBank c x).ports = s.ports := rfl
@[simp] theorem State.setBank_probeRx (s : State) (c : ChamberNo) (x : ProbeBank) : (s.setBank c x).probeRx = s.probeRx := rfl
@[simp] theorem State.setBank_boardRx (s : State) (c : ChamberNo) (x : ProbeBank) : (s.setBank c x).boardRx = s.boardRx := rfl
@[simp] theorem State.setBank_chambers (s : State) (c : ChamberNo) (x : ProbeBank) : (s.setBank c x).chambers = s.chambers := rfl
@[simp] theorem State.setBank_doors (s : State) (c : ChamberNo) (x : ProbeBank) : (s.setBank c x).doors = s.doors := rfl
@[simp] theorem State.setBank_rings (s : State) (c : ChamberNo) (x : ProbeBank) : (s.setBank c x).rings = s.rings := rfl
@[simp] theorem State.setBank_schedules (s : State) (c : ChamberNo) (x : ProbeBank) : (s.setBank c x).schedules = s.schedules := rfl
@[simp] theorem State.setBank_staging (s : State) (c : ChamberNo) (x : ProbeBank) : (s.setBank c x).staging = s.staging := rfl
@[simp] theorem State.setBank_species (s : State) (c : ChamberNo) (x : ProbeBank) : (s.setBank c x).species = s.species := rfl
@[simp] theorem State.setBank_charges (s : State) (c : ChamberNo) (x : ProbeBank) : (s.setBank c x).charges = s.charges := rfl
@[simp] theorem State.setBank_chargeCounter (s : State) (c : ChamberNo) (x : ProbeBank) : (s.setBank c x).chargeCounter = s.chargeCounter := rfl
@[simp] theorem State.setBank_lastSeq (s : State) (c : ChamberNo) (x : ProbeBank) : (s.setBank c x).lastSeq = s.lastSeq := rfl
@[simp] theorem State.setBank_lastReply (s : State) (c : ChamberNo) (x : ProbeBank) : (s.setBank c x).lastReply = s.lastReply := rfl
@[simp] theorem State.setBank_boardOut (s : State) (c : ChamberNo) (x : ProbeBank) : (s.setBank c x).boardOut = s.boardOut := rfl
@[simp] theorem State.setBank_draw (s : State) (c : ChamberNo) (x : ProbeBank) : (s.setBank c x).draw = s.draw := rfl
@[simp] theorem State.setBank_plan (s : State) (c : ChamberNo) (x : ProbeBank) : (s.setBank c x).plan = s.plan := rfl
@[simp] theorem State.setBank_fifo (s : State) (c : ChamberNo) (x : ProbeBank) : (s.setBank c x).fifo = s.fifo := rfl
@[simp] theorem State.setBank_lineReady (s : State) (c : ChamberNo) (x : ProbeBank) : (s.setBank c x).lineReady = s.lineReady := rfl
@[simp] theorem State.setBank_packCounter (s : State) (c : ChamberNo) (x : ProbeBank) : (s.setBank c x).packCounter = s.packCounter := rfl
@[simp] theorem State.setBank_silence (s : State) (c : ChamberNo) (x : ProbeBank) : (s.setBank c x).silence = s.silence := rfl
@[simp] theorem State.setBank_blocked (s : State) (c : ChamberNo) (x : ProbeBank) : (s.setBank c x).blocked = s.blocked := rfl
@[simp] theorem State.setBank_packs (s : State) (c : ChamberNo) (x : ProbeBank) : (s.setBank c x).packs = s.packs := rfl
@[simp] theorem State.setBank_labelQueue (s : State) (c : ChamberNo) (x : ProbeBank) : (s.setBank c x).labelQueue = s.labelQueue := rfl
@[simp] theorem State.setBank_chamber (s : State) (c : ChamberNo) (x : ProbeBank) (d : ChamberNo) : (s.setBank c x).chamber d = s.chamber d := rfl
@[simp] theorem State.setBank_monitor (s : State) (c : ChamberNo) (x : ProbeBank) (d : ChamberNo) : (s.setBank c x).monitor d = s.monitor d := rfl
@[simp] theorem State.setBank_eventRing (s : State) (c : ChamberNo) (x : ProbeBank) (d : ChamberNo) : (s.setBank c x).eventRing d = s.eventRing d := rfl
@[simp] theorem State.setBank_charge (s : State) (c : ChamberNo) (x : ProbeBank) (d : Fin 8) : (s.setBank c x).charge d = s.charge d := rfl
@[simp] theorem State.setBank_pack (s : State) (c : ChamberNo) (x : ProbeBank) (d : Fin 16) : (s.setBank c x).pack d = s.pack d := rfl
@[simp] theorem State.setBank_port (s : State) (c : ChamberNo) (x : ProbeBank) (d : Port) : (s.setBank c x).port d = s.port d := rfl

/-! ### `State.setMonitor` -/

@[simp] theorem State.setMonitor_pending (s : State) (c : ChamberNo) (x : DoorMonitor) : (s.setMonitor c x).pending = s.pending := rfl
@[simp] theorem State.setMonitor_clock (s : State) (c : ChamberNo) (x : DoorMonitor) : (s.setMonitor c x).clock = s.clock := rfl
@[simp] theorem State.setMonitor_power (s : State) (c : ChamberNo) (x : DoorMonitor) : (s.setMonitor c x).power = s.power := rfl
@[simp] theorem State.setMonitor_baud (s : State) (c : ChamberNo) (x : DoorMonitor) : (s.setMonitor c x).baud = s.baud := rfl
@[simp] theorem State.setMonitor_ports (s : State) (c : ChamberNo) (x : DoorMonitor) : (s.setMonitor c x).ports = s.ports := rfl
@[simp] theorem State.setMonitor_probeRx (s : State) (c : ChamberNo) (x : DoorMonitor) : (s.setMonitor c x).probeRx = s.probeRx := rfl
@[simp] theorem State.setMonitor_boardRx (s : State) (c : ChamberNo) (x : DoorMonitor) : (s.setMonitor c x).boardRx = s.boardRx := rfl
@[simp] theorem State.setMonitor_chambers (s : State) (c : ChamberNo) (x : DoorMonitor) : (s.setMonitor c x).chambers = s.chambers := rfl
@[simp] theorem State.setMonitor_probes (s : State) (c : ChamberNo) (x : DoorMonitor) : (s.setMonitor c x).probes = s.probes := rfl
@[simp] theorem State.setMonitor_rings (s : State) (c : ChamberNo) (x : DoorMonitor) : (s.setMonitor c x).rings = s.rings := rfl
@[simp] theorem State.setMonitor_schedules (s : State) (c : ChamberNo) (x : DoorMonitor) : (s.setMonitor c x).schedules = s.schedules := rfl
@[simp] theorem State.setMonitor_staging (s : State) (c : ChamberNo) (x : DoorMonitor) : (s.setMonitor c x).staging = s.staging := rfl
@[simp] theorem State.setMonitor_species (s : State) (c : ChamberNo) (x : DoorMonitor) : (s.setMonitor c x).species = s.species := rfl
@[simp] theorem State.setMonitor_charges (s : State) (c : ChamberNo) (x : DoorMonitor) : (s.setMonitor c x).charges = s.charges := rfl
@[simp] theorem State.setMonitor_chargeCounter (s : State) (c : ChamberNo) (x : DoorMonitor) : (s.setMonitor c x).chargeCounter = s.chargeCounter := rfl
@[simp] theorem State.setMonitor_lastSeq (s : State) (c : ChamberNo) (x : DoorMonitor) : (s.setMonitor c x).lastSeq = s.lastSeq := rfl
@[simp] theorem State.setMonitor_lastReply (s : State) (c : ChamberNo) (x : DoorMonitor) : (s.setMonitor c x).lastReply = s.lastReply := rfl
@[simp] theorem State.setMonitor_boardOut (s : State) (c : ChamberNo) (x : DoorMonitor) : (s.setMonitor c x).boardOut = s.boardOut := rfl
@[simp] theorem State.setMonitor_draw (s : State) (c : ChamberNo) (x : DoorMonitor) : (s.setMonitor c x).draw = s.draw := rfl
@[simp] theorem State.setMonitor_plan (s : State) (c : ChamberNo) (x : DoorMonitor) : (s.setMonitor c x).plan = s.plan := rfl
@[simp] theorem State.setMonitor_fifo (s : State) (c : ChamberNo) (x : DoorMonitor) : (s.setMonitor c x).fifo = s.fifo := rfl
@[simp] theorem State.setMonitor_lineReady (s : State) (c : ChamberNo) (x : DoorMonitor) : (s.setMonitor c x).lineReady = s.lineReady := rfl
@[simp] theorem State.setMonitor_packCounter (s : State) (c : ChamberNo) (x : DoorMonitor) : (s.setMonitor c x).packCounter = s.packCounter := rfl
@[simp] theorem State.setMonitor_silence (s : State) (c : ChamberNo) (x : DoorMonitor) : (s.setMonitor c x).silence = s.silence := rfl
@[simp] theorem State.setMonitor_blocked (s : State) (c : ChamberNo) (x : DoorMonitor) : (s.setMonitor c x).blocked = s.blocked := rfl
@[simp] theorem State.setMonitor_packs (s : State) (c : ChamberNo) (x : DoorMonitor) : (s.setMonitor c x).packs = s.packs := rfl
@[simp] theorem State.setMonitor_labelQueue (s : State) (c : ChamberNo) (x : DoorMonitor) : (s.setMonitor c x).labelQueue = s.labelQueue := rfl
@[simp] theorem State.setMonitor_chamber (s : State) (c : ChamberNo) (x : DoorMonitor) (d : ChamberNo) : (s.setMonitor c x).chamber d = s.chamber d := rfl
@[simp] theorem State.setMonitor_bank (s : State) (c : ChamberNo) (x : DoorMonitor) (d : ChamberNo) : (s.setMonitor c x).bank d = s.bank d := rfl
@[simp] theorem State.setMonitor_eventRing (s : State) (c : ChamberNo) (x : DoorMonitor) (d : ChamberNo) : (s.setMonitor c x).eventRing d = s.eventRing d := rfl
@[simp] theorem State.setMonitor_charge (s : State) (c : ChamberNo) (x : DoorMonitor) (d : Fin 8) : (s.setMonitor c x).charge d = s.charge d := rfl
@[simp] theorem State.setMonitor_pack (s : State) (c : ChamberNo) (x : DoorMonitor) (d : Fin 16) : (s.setMonitor c x).pack d = s.pack d := rfl
@[simp] theorem State.setMonitor_port (s : State) (c : ChamberNo) (x : DoorMonitor) (d : Port) : (s.setMonitor c x).port d = s.port d := rfl

/-! ### `State.setRing` -/

@[simp] theorem State.setRing_pending (s : State) (c : ChamberNo) (x : EventRing) : (s.setRing c x).pending = s.pending := rfl
@[simp] theorem State.setRing_clock (s : State) (c : ChamberNo) (x : EventRing) : (s.setRing c x).clock = s.clock := rfl
@[simp] theorem State.setRing_power (s : State) (c : ChamberNo) (x : EventRing) : (s.setRing c x).power = s.power := rfl
@[simp] theorem State.setRing_baud (s : State) (c : ChamberNo) (x : EventRing) : (s.setRing c x).baud = s.baud := rfl
@[simp] theorem State.setRing_ports (s : State) (c : ChamberNo) (x : EventRing) : (s.setRing c x).ports = s.ports := rfl
@[simp] theorem State.setRing_probeRx (s : State) (c : ChamberNo) (x : EventRing) : (s.setRing c x).probeRx = s.probeRx := rfl
@[simp] theorem State.setRing_boardRx (s : State) (c : ChamberNo) (x : EventRing) : (s.setRing c x).boardRx = s.boardRx := rfl
@[simp] theorem State.setRing_chambers (s : State) (c : ChamberNo) (x : EventRing) : (s.setRing c x).chambers = s.chambers := rfl
@[simp] theorem State.setRing_probes (s : State) (c : ChamberNo) (x : EventRing) : (s.setRing c x).probes = s.probes := rfl
@[simp] theorem State.setRing_doors (s : State) (c : ChamberNo) (x : EventRing) : (s.setRing c x).doors = s.doors := rfl
@[simp] theorem State.setRing_schedules (s : State) (c : ChamberNo) (x : EventRing) : (s.setRing c x).schedules = s.schedules := rfl
@[simp] theorem State.setRing_staging (s : State) (c : ChamberNo) (x : EventRing) : (s.setRing c x).staging = s.staging := rfl
@[simp] theorem State.setRing_species (s : State) (c : ChamberNo) (x : EventRing) : (s.setRing c x).species = s.species := rfl
@[simp] theorem State.setRing_charges (s : State) (c : ChamberNo) (x : EventRing) : (s.setRing c x).charges = s.charges := rfl
@[simp] theorem State.setRing_chargeCounter (s : State) (c : ChamberNo) (x : EventRing) : (s.setRing c x).chargeCounter = s.chargeCounter := rfl
@[simp] theorem State.setRing_lastSeq (s : State) (c : ChamberNo) (x : EventRing) : (s.setRing c x).lastSeq = s.lastSeq := rfl
@[simp] theorem State.setRing_lastReply (s : State) (c : ChamberNo) (x : EventRing) : (s.setRing c x).lastReply = s.lastReply := rfl
@[simp] theorem State.setRing_boardOut (s : State) (c : ChamberNo) (x : EventRing) : (s.setRing c x).boardOut = s.boardOut := rfl
@[simp] theorem State.setRing_draw (s : State) (c : ChamberNo) (x : EventRing) : (s.setRing c x).draw = s.draw := rfl
@[simp] theorem State.setRing_plan (s : State) (c : ChamberNo) (x : EventRing) : (s.setRing c x).plan = s.plan := rfl
@[simp] theorem State.setRing_fifo (s : State) (c : ChamberNo) (x : EventRing) : (s.setRing c x).fifo = s.fifo := rfl
@[simp] theorem State.setRing_lineReady (s : State) (c : ChamberNo) (x : EventRing) : (s.setRing c x).lineReady = s.lineReady := rfl
@[simp] theorem State.setRing_packCounter (s : State) (c : ChamberNo) (x : EventRing) : (s.setRing c x).packCounter = s.packCounter := rfl
@[simp] theorem State.setRing_silence (s : State) (c : ChamberNo) (x : EventRing) : (s.setRing c x).silence = s.silence := rfl
@[simp] theorem State.setRing_blocked (s : State) (c : ChamberNo) (x : EventRing) : (s.setRing c x).blocked = s.blocked := rfl
@[simp] theorem State.setRing_packs (s : State) (c : ChamberNo) (x : EventRing) : (s.setRing c x).packs = s.packs := rfl
@[simp] theorem State.setRing_labelQueue (s : State) (c : ChamberNo) (x : EventRing) : (s.setRing c x).labelQueue = s.labelQueue := rfl
@[simp] theorem State.setRing_chamber (s : State) (c : ChamberNo) (x : EventRing) (d : ChamberNo) : (s.setRing c x).chamber d = s.chamber d := rfl
@[simp] theorem State.setRing_bank (s : State) (c : ChamberNo) (x : EventRing) (d : ChamberNo) : (s.setRing c x).bank d = s.bank d := rfl
@[simp] theorem State.setRing_monitor (s : State) (c : ChamberNo) (x : EventRing) (d : ChamberNo) : (s.setRing c x).monitor d = s.monitor d := rfl
@[simp] theorem State.setRing_charge (s : State) (c : ChamberNo) (x : EventRing) (d : Fin 8) : (s.setRing c x).charge d = s.charge d := rfl
@[simp] theorem State.setRing_pack (s : State) (c : ChamberNo) (x : EventRing) (d : Fin 16) : (s.setRing c x).pack d = s.pack d := rfl
@[simp] theorem State.setRing_port (s : State) (c : ChamberNo) (x : EventRing) (d : Port) : (s.setRing c x).port d = s.port d := rfl

/-! ### `State.setCharge` -/

@[simp] theorem State.setCharge_pending (s : State) (k : Fin 8) (x : Option Charge) : (s.setCharge k x).pending = s.pending := rfl
@[simp] theorem State.setCharge_clock (s : State) (k : Fin 8) (x : Option Charge) : (s.setCharge k x).clock = s.clock := rfl
@[simp] theorem State.setCharge_power (s : State) (k : Fin 8) (x : Option Charge) : (s.setCharge k x).power = s.power := rfl
@[simp] theorem State.setCharge_baud (s : State) (k : Fin 8) (x : Option Charge) : (s.setCharge k x).baud = s.baud := rfl
@[simp] theorem State.setCharge_ports (s : State) (k : Fin 8) (x : Option Charge) : (s.setCharge k x).ports = s.ports := rfl
@[simp] theorem State.setCharge_probeRx (s : State) (k : Fin 8) (x : Option Charge) : (s.setCharge k x).probeRx = s.probeRx := rfl
@[simp] theorem State.setCharge_boardRx (s : State) (k : Fin 8) (x : Option Charge) : (s.setCharge k x).boardRx = s.boardRx := rfl
@[simp] theorem State.setCharge_chambers (s : State) (k : Fin 8) (x : Option Charge) : (s.setCharge k x).chambers = s.chambers := rfl
@[simp] theorem State.setCharge_probes (s : State) (k : Fin 8) (x : Option Charge) : (s.setCharge k x).probes = s.probes := rfl
@[simp] theorem State.setCharge_doors (s : State) (k : Fin 8) (x : Option Charge) : (s.setCharge k x).doors = s.doors := rfl
@[simp] theorem State.setCharge_rings (s : State) (k : Fin 8) (x : Option Charge) : (s.setCharge k x).rings = s.rings := rfl
@[simp] theorem State.setCharge_schedules (s : State) (k : Fin 8) (x : Option Charge) : (s.setCharge k x).schedules = s.schedules := rfl
@[simp] theorem State.setCharge_staging (s : State) (k : Fin 8) (x : Option Charge) : (s.setCharge k x).staging = s.staging := rfl
@[simp] theorem State.setCharge_species (s : State) (k : Fin 8) (x : Option Charge) : (s.setCharge k x).species = s.species := rfl
@[simp] theorem State.setCharge_chargeCounter (s : State) (k : Fin 8) (x : Option Charge) : (s.setCharge k x).chargeCounter = s.chargeCounter := rfl
@[simp] theorem State.setCharge_lastSeq (s : State) (k : Fin 8) (x : Option Charge) : (s.setCharge k x).lastSeq = s.lastSeq := rfl
@[simp] theorem State.setCharge_lastReply (s : State) (k : Fin 8) (x : Option Charge) : (s.setCharge k x).lastReply = s.lastReply := rfl
@[simp] theorem State.setCharge_boardOut (s : State) (k : Fin 8) (x : Option Charge) : (s.setCharge k x).boardOut = s.boardOut := rfl
@[simp] theorem State.setCharge_draw (s : State) (k : Fin 8) (x : Option Charge) : (s.setCharge k x).draw = s.draw := rfl
@[simp] theorem State.setCharge_plan (s : State) (k : Fin 8) (x : Option Charge) : (s.setCharge k x).plan = s.plan := rfl
@[simp] theorem State.setCharge_fifo (s : State) (k : Fin 8) (x : Option Charge) : (s.setCharge k x).fifo = s.fifo := rfl
@[simp] theorem State.setCharge_lineReady (s : State) (k : Fin 8) (x : Option Charge) : (s.setCharge k x).lineReady = s.lineReady := rfl
@[simp] theorem State.setCharge_packCounter (s : State) (k : Fin 8) (x : Option Charge) : (s.setCharge k x).packCounter = s.packCounter := rfl
@[simp] theorem State.setCharge_silence (s : State) (k : Fin 8) (x : Option Charge) : (s.setCharge k x).silence = s.silence := rfl
@[simp] theorem State.setCharge_blocked (s : State) (k : Fin 8) (x : Option Charge) : (s.setCharge k x).blocked = s.blocked := rfl
@[simp] theorem State.setCharge_packs (s : State) (k : Fin 8) (x : Option Charge) : (s.setCharge k x).packs = s.packs := rfl
@[simp] theorem State.setCharge_labelQueue (s : State) (k : Fin 8) (x : Option Charge) : (s.setCharge k x).labelQueue = s.labelQueue := rfl
@[simp] theorem State.setCharge_chamber (s : State) (k : Fin 8) (x : Option Charge) (d : ChamberNo) : (s.setCharge k x).chamber d = s.chamber d := rfl
@[simp] theorem State.setCharge_bank (s : State) (k : Fin 8) (x : Option Charge) (d : ChamberNo) : (s.setCharge k x).bank d = s.bank d := rfl
@[simp] theorem State.setCharge_monitor (s : State) (k : Fin 8) (x : Option Charge) (d : ChamberNo) : (s.setCharge k x).monitor d = s.monitor d := rfl
@[simp] theorem State.setCharge_eventRing (s : State) (k : Fin 8) (x : Option Charge) (d : ChamberNo) : (s.setCharge k x).eventRing d = s.eventRing d := rfl
@[simp] theorem State.setCharge_pack (s : State) (k : Fin 8) (x : Option Charge) (d : Fin 16) : (s.setCharge k x).pack d = s.pack d := rfl
@[simp] theorem State.setCharge_port (s : State) (k : Fin 8) (x : Option Charge) (d : Port) : (s.setCharge k x).port d = s.port d := rfl

/-! ### `State.modCharge` -/

@[simp] theorem State.modCharge_pending (s : State) (k : Fin 8) (f : Charge → Charge) : (s.modCharge k f).pending = s.pending := rfl
@[simp] theorem State.modCharge_clock (s : State) (k : Fin 8) (f : Charge → Charge) : (s.modCharge k f).clock = s.clock := rfl
@[simp] theorem State.modCharge_power (s : State) (k : Fin 8) (f : Charge → Charge) : (s.modCharge k f).power = s.power := rfl
@[simp] theorem State.modCharge_baud (s : State) (k : Fin 8) (f : Charge → Charge) : (s.modCharge k f).baud = s.baud := rfl
@[simp] theorem State.modCharge_ports (s : State) (k : Fin 8) (f : Charge → Charge) : (s.modCharge k f).ports = s.ports := rfl
@[simp] theorem State.modCharge_probeRx (s : State) (k : Fin 8) (f : Charge → Charge) : (s.modCharge k f).probeRx = s.probeRx := rfl
@[simp] theorem State.modCharge_boardRx (s : State) (k : Fin 8) (f : Charge → Charge) : (s.modCharge k f).boardRx = s.boardRx := rfl
@[simp] theorem State.modCharge_chambers (s : State) (k : Fin 8) (f : Charge → Charge) : (s.modCharge k f).chambers = s.chambers := rfl
@[simp] theorem State.modCharge_probes (s : State) (k : Fin 8) (f : Charge → Charge) : (s.modCharge k f).probes = s.probes := rfl
@[simp] theorem State.modCharge_doors (s : State) (k : Fin 8) (f : Charge → Charge) : (s.modCharge k f).doors = s.doors := rfl
@[simp] theorem State.modCharge_rings (s : State) (k : Fin 8) (f : Charge → Charge) : (s.modCharge k f).rings = s.rings := rfl
@[simp] theorem State.modCharge_schedules (s : State) (k : Fin 8) (f : Charge → Charge) : (s.modCharge k f).schedules = s.schedules := rfl
@[simp] theorem State.modCharge_staging (s : State) (k : Fin 8) (f : Charge → Charge) : (s.modCharge k f).staging = s.staging := rfl
@[simp] theorem State.modCharge_species (s : State) (k : Fin 8) (f : Charge → Charge) : (s.modCharge k f).species = s.species := rfl
@[simp] theorem State.modCharge_chargeCounter (s : State) (k : Fin 8) (f : Charge → Charge) : (s.modCharge k f).chargeCounter = s.chargeCounter := rfl
@[simp] theorem State.modCharge_lastSeq (s : State) (k : Fin 8) (f : Charge → Charge) : (s.modCharge k f).lastSeq = s.lastSeq := rfl
@[simp] theorem State.modCharge_lastReply (s : State) (k : Fin 8) (f : Charge → Charge) : (s.modCharge k f).lastReply = s.lastReply := rfl
@[simp] theorem State.modCharge_boardOut (s : State) (k : Fin 8) (f : Charge → Charge) : (s.modCharge k f).boardOut = s.boardOut := rfl
@[simp] theorem State.modCharge_draw (s : State) (k : Fin 8) (f : Charge → Charge) : (s.modCharge k f).draw = s.draw := rfl
@[simp] theorem State.modCharge_plan (s : State) (k : Fin 8) (f : Charge → Charge) : (s.modCharge k f).plan = s.plan := rfl
@[simp] theorem State.modCharge_fifo (s : State) (k : Fin 8) (f : Charge → Charge) : (s.modCharge k f).fifo = s.fifo := rfl
@[simp] theorem State.modCharge_lineReady (s : State) (k : Fin 8) (f : Charge → Charge) : (s.modCharge k f).lineReady = s.lineReady := rfl
@[simp] theorem State.modCharge_packCounter (s : State) (k : Fin 8) (f : Charge → Charge) : (s.modCharge k f).packCounter = s.packCounter := rfl
@[simp] theorem State.modCharge_silence (s : State) (k : Fin 8) (f : Charge → Charge) : (s.modCharge k f).silence = s.silence := rfl
@[simp] theorem State.modCharge_blocked (s : State) (k : Fin 8) (f : Charge → Charge) : (s.modCharge k f).blocked = s.blocked := rfl
@[simp] theorem State.modCharge_packs (s : State) (k : Fin 8) (f : Charge → Charge) : (s.modCharge k f).packs = s.packs := rfl
@[simp] theorem State.modCharge_labelQueue (s : State) (k : Fin 8) (f : Charge → Charge) : (s.modCharge k f).labelQueue = s.labelQueue := rfl
@[simp] theorem State.modCharge_chamber (s : State) (k : Fin 8) (f : Charge → Charge) (d : ChamberNo) : (s.modCharge k f).chamber d = s.chamber d := rfl
@[simp] theorem State.modCharge_bank (s : State) (k : Fin 8) (f : Charge → Charge) (d : ChamberNo) : (s.modCharge k f).bank d = s.bank d := rfl
@[simp] theorem State.modCharge_monitor (s : State) (k : Fin 8) (f : Charge → Charge) (d : ChamberNo) : (s.modCharge k f).monitor d = s.monitor d := rfl
@[simp] theorem State.modCharge_eventRing (s : State) (k : Fin 8) (f : Charge → Charge) (d : ChamberNo) : (s.modCharge k f).eventRing d = s.eventRing d := rfl
@[simp] theorem State.modCharge_pack (s : State) (k : Fin 8) (f : Charge → Charge) (d : Fin 16) : (s.modCharge k f).pack d = s.pack d := rfl
@[simp] theorem State.modCharge_port (s : State) (k : Fin 8) (f : Charge → Charge) (d : Port) : (s.modCharge k f).port d = s.port d := rfl

/-! ### `State.modBound` -/

@[simp] theorem State.modBound_pending (s : State) (c : ChamberNo) (f : Charge → Charge) : (s.modBound c f).pending = s.pending := rfl
@[simp] theorem State.modBound_clock (s : State) (c : ChamberNo) (f : Charge → Charge) : (s.modBound c f).clock = s.clock := rfl
@[simp] theorem State.modBound_power (s : State) (c : ChamberNo) (f : Charge → Charge) : (s.modBound c f).power = s.power := rfl
@[simp] theorem State.modBound_baud (s : State) (c : ChamberNo) (f : Charge → Charge) : (s.modBound c f).baud = s.baud := rfl
@[simp] theorem State.modBound_ports (s : State) (c : ChamberNo) (f : Charge → Charge) : (s.modBound c f).ports = s.ports := rfl
@[simp] theorem State.modBound_probeRx (s : State) (c : ChamberNo) (f : Charge → Charge) : (s.modBound c f).probeRx = s.probeRx := rfl
@[simp] theorem State.modBound_boardRx (s : State) (c : ChamberNo) (f : Charge → Charge) : (s.modBound c f).boardRx = s.boardRx := rfl
@[simp] theorem State.modBound_chambers (s : State) (c : ChamberNo) (f : Charge → Charge) : (s.modBound c f).chambers = s.chambers := rfl
@[simp] theorem State.modBound_probes (s : State) (c : ChamberNo) (f : Charge → Charge) : (s.modBound c f).probes = s.probes := rfl
@[simp] theorem State.modBound_doors (s : State) (c : ChamberNo) (f : Charge → Charge) : (s.modBound c f).doors = s.doors := rfl
@[simp] theorem State.modBound_rings (s : State) (c : ChamberNo) (f : Charge → Charge) : (s.modBound c f).rings = s.rings := rfl
@[simp] theorem State.modBound_schedules (s : State) (c : ChamberNo) (f : Charge → Charge) : (s.modBound c f).schedules = s.schedules := rfl
@[simp] theorem State.modBound_staging (s : State) (c : ChamberNo) (f : Charge → Charge) : (s.modBound c f).staging = s.staging := rfl
@[simp] theorem State.modBound_species (s : State) (c : ChamberNo) (f : Charge → Charge) : (s.modBound c f).species = s.species := rfl
@[simp] theorem State.modBound_chargeCounter (s : State) (c : ChamberNo) (f : Charge → Charge) : (s.modBound c f).chargeCounter = s.chargeCounter := rfl
@[simp] theorem State.modBound_lastSeq (s : State) (c : ChamberNo) (f : Charge → Charge) : (s.modBound c f).lastSeq = s.lastSeq := rfl
@[simp] theorem State.modBound_lastReply (s : State) (c : ChamberNo) (f : Charge → Charge) : (s.modBound c f).lastReply = s.lastReply := rfl
@[simp] theorem State.modBound_boardOut (s : State) (c : ChamberNo) (f : Charge → Charge) : (s.modBound c f).boardOut = s.boardOut := rfl
@[simp] theorem State.modBound_draw (s : State) (c : ChamberNo) (f : Charge → Charge) : (s.modBound c f).draw = s.draw := rfl
@[simp] theorem State.modBound_plan (s : State) (c : ChamberNo) (f : Charge → Charge) : (s.modBound c f).plan = s.plan := rfl
@[simp] theorem State.modBound_fifo (s : State) (c : ChamberNo) (f : Charge → Charge) : (s.modBound c f).fifo = s.fifo := rfl
@[simp] theorem State.modBound_lineReady (s : State) (c : ChamberNo) (f : Charge → Charge) : (s.modBound c f).lineReady = s.lineReady := rfl
@[simp] theorem State.modBound_packCounter (s : State) (c : ChamberNo) (f : Charge → Charge) : (s.modBound c f).packCounter = s.packCounter := rfl
@[simp] theorem State.modBound_silence (s : State) (c : ChamberNo) (f : Charge → Charge) : (s.modBound c f).silence = s.silence := rfl
@[simp] theorem State.modBound_blocked (s : State) (c : ChamberNo) (f : Charge → Charge) : (s.modBound c f).blocked = s.blocked := rfl
@[simp] theorem State.modBound_packs (s : State) (c : ChamberNo) (f : Charge → Charge) : (s.modBound c f).packs = s.packs := rfl
@[simp] theorem State.modBound_labelQueue (s : State) (c : ChamberNo) (f : Charge → Charge) : (s.modBound c f).labelQueue = s.labelQueue := rfl
@[simp] theorem State.modBound_chamber (s : State) (c : ChamberNo) (f : Charge → Charge) (d : ChamberNo) : (s.modBound c f).chamber d = s.chamber d := rfl
@[simp] theorem State.modBound_bank (s : State) (c : ChamberNo) (f : Charge → Charge) (d : ChamberNo) : (s.modBound c f).bank d = s.bank d := rfl
@[simp] theorem State.modBound_monitor (s : State) (c : ChamberNo) (f : Charge → Charge) (d : ChamberNo) : (s.modBound c f).monitor d = s.monitor d := rfl
@[simp] theorem State.modBound_eventRing (s : State) (c : ChamberNo) (f : Charge → Charge) (d : ChamberNo) : (s.modBound c f).eventRing d = s.eventRing d := rfl
@[simp] theorem State.modBound_pack (s : State) (c : ChamberNo) (f : Charge → Charge) (d : Fin 16) : (s.modBound c f).pack d = s.pack d := rfl
@[simp] theorem State.modBound_port (s : State) (c : ChamberNo) (f : Charge → Charge) (d : Port) : (s.modBound c f).port d = s.port d := rfl

/-! ### `State.setPack` -/

@[simp] theorem State.setPack_pending (s : State) (k : Fin 16) (x : Option Pack) : (s.setPack k x).pending = s.pending := rfl
@[simp] theorem State.setPack_clock (s : State) (k : Fin 16) (x : Option Pack) : (s.setPack k x).clock = s.clock := rfl
@[simp] theorem State.setPack_power (s : State) (k : Fin 16) (x : Option Pack) : (s.setPack k x).power = s.power := rfl
@[simp] theorem State.setPack_baud (s : State) (k : Fin 16) (x : Option Pack) : (s.setPack k x).baud = s.baud := rfl
@[simp] theorem State.setPack_ports (s : State) (k : Fin 16) (x : Option Pack) : (s.setPack k x).ports = s.ports := rfl
@[simp] theorem State.setPack_probeRx (s : State) (k : Fin 16) (x : Option Pack) : (s.setPack k x).probeRx = s.probeRx := rfl
@[simp] theorem State.setPack_boardRx (s : State) (k : Fin 16) (x : Option Pack) : (s.setPack k x).boardRx = s.boardRx := rfl
@[simp] theorem State.setPack_chambers (s : State) (k : Fin 16) (x : Option Pack) : (s.setPack k x).chambers = s.chambers := rfl
@[simp] theorem State.setPack_probes (s : State) (k : Fin 16) (x : Option Pack) : (s.setPack k x).probes = s.probes := rfl
@[simp] theorem State.setPack_doors (s : State) (k : Fin 16) (x : Option Pack) : (s.setPack k x).doors = s.doors := rfl
@[simp] theorem State.setPack_rings (s : State) (k : Fin 16) (x : Option Pack) : (s.setPack k x).rings = s.rings := rfl
@[simp] theorem State.setPack_schedules (s : State) (k : Fin 16) (x : Option Pack) : (s.setPack k x).schedules = s.schedules := rfl
@[simp] theorem State.setPack_staging (s : State) (k : Fin 16) (x : Option Pack) : (s.setPack k x).staging = s.staging := rfl
@[simp] theorem State.setPack_species (s : State) (k : Fin 16) (x : Option Pack) : (s.setPack k x).species = s.species := rfl
@[simp] theorem State.setPack_charges (s : State) (k : Fin 16) (x : Option Pack) : (s.setPack k x).charges = s.charges := rfl
@[simp] theorem State.setPack_chargeCounter (s : State) (k : Fin 16) (x : Option Pack) : (s.setPack k x).chargeCounter = s.chargeCounter := rfl
@[simp] theorem State.setPack_lastSeq (s : State) (k : Fin 16) (x : Option Pack) : (s.setPack k x).lastSeq = s.lastSeq := rfl
@[simp] theorem State.setPack_lastReply (s : State) (k : Fin 16) (x : Option Pack) : (s.setPack k x).lastReply = s.lastReply := rfl
@[simp] theorem State.setPack_boardOut (s : State) (k : Fin 16) (x : Option Pack) : (s.setPack k x).boardOut = s.boardOut := rfl
@[simp] theorem State.setPack_draw (s : State) (k : Fin 16) (x : Option Pack) : (s.setPack k x).draw = s.draw := rfl
@[simp] theorem State.setPack_plan (s : State) (k : Fin 16) (x : Option Pack) : (s.setPack k x).plan = s.plan := rfl
@[simp] theorem State.setPack_fifo (s : State) (k : Fin 16) (x : Option Pack) : (s.setPack k x).fifo = s.fifo := rfl
@[simp] theorem State.setPack_lineReady (s : State) (k : Fin 16) (x : Option Pack) : (s.setPack k x).lineReady = s.lineReady := rfl
@[simp] theorem State.setPack_packCounter (s : State) (k : Fin 16) (x : Option Pack) : (s.setPack k x).packCounter = s.packCounter := rfl
@[simp] theorem State.setPack_silence (s : State) (k : Fin 16) (x : Option Pack) : (s.setPack k x).silence = s.silence := rfl
@[simp] theorem State.setPack_blocked (s : State) (k : Fin 16) (x : Option Pack) : (s.setPack k x).blocked = s.blocked := rfl
@[simp] theorem State.setPack_labelQueue (s : State) (k : Fin 16) (x : Option Pack) : (s.setPack k x).labelQueue = s.labelQueue := rfl
@[simp] theorem State.setPack_chamber (s : State) (k : Fin 16) (x : Option Pack) (d : ChamberNo) : (s.setPack k x).chamber d = s.chamber d := rfl
@[simp] theorem State.setPack_bank (s : State) (k : Fin 16) (x : Option Pack) (d : ChamberNo) : (s.setPack k x).bank d = s.bank d := rfl
@[simp] theorem State.setPack_monitor (s : State) (k : Fin 16) (x : Option Pack) (d : ChamberNo) : (s.setPack k x).monitor d = s.monitor d := rfl
@[simp] theorem State.setPack_eventRing (s : State) (k : Fin 16) (x : Option Pack) (d : ChamberNo) : (s.setPack k x).eventRing d = s.eventRing d := rfl
@[simp] theorem State.setPack_charge (s : State) (k : Fin 16) (x : Option Pack) (d : Fin 8) : (s.setPack k x).charge d = s.charge d := rfl
@[simp] theorem State.setPack_port (s : State) (k : Fin 16) (x : Option Pack) (d : Port) : (s.setPack k x).port d = s.port d := rfl

/-! ### `State.setPort` -/

@[simp] theorem State.setPort_pending (s : State) (p : Port) (x : PortState) : (s.setPort p x).pending = s.pending := rfl
@[simp] theorem State.setPort_clock (s : State) (p : Port) (x : PortState) : (s.setPort p x).clock = s.clock := rfl
@[simp] theorem State.setPort_power (s : State) (p : Port) (x : PortState) : (s.setPort p x).power = s.power := rfl
@[simp] theorem State.setPort_baud (s : State) (p : Port) (x : PortState) : (s.setPort p x).baud = s.baud := rfl
@[simp] theorem State.setPort_probeRx (s : State) (p : Port) (x : PortState) : (s.setPort p x).probeRx = s.probeRx := rfl
@[simp] theorem State.setPort_boardRx (s : State) (p : Port) (x : PortState) : (s.setPort p x).boardRx = s.boardRx := rfl
@[simp] theorem State.setPort_chambers (s : State) (p : Port) (x : PortState) : (s.setPort p x).chambers = s.chambers := rfl
@[simp] theorem State.setPort_probes (s : State) (p : Port) (x : PortState) : (s.setPort p x).probes = s.probes := rfl
@[simp] theorem State.setPort_doors (s : State) (p : Port) (x : PortState) : (s.setPort p x).doors = s.doors := rfl
@[simp] theorem State.setPort_rings (s : State) (p : Port) (x : PortState) : (s.setPort p x).rings = s.rings := rfl
@[simp] theorem State.setPort_schedules (s : State) (p : Port) (x : PortState) : (s.setPort p x).schedules = s.schedules := rfl
@[simp] theorem State.setPort_staging (s : State) (p : Port) (x : PortState) : (s.setPort p x).staging = s.staging := rfl
@[simp] theorem State.setPort_species (s : State) (p : Port) (x : PortState) : (s.setPort p x).species = s.species := rfl
@[simp] theorem State.setPort_charges (s : State) (p : Port) (x : PortState) : (s.setPort p x).charges = s.charges := rfl
@[simp] theorem State.setPort_chargeCounter (s : State) (p : Port) (x : PortState) : (s.setPort p x).chargeCounter = s.chargeCounter := rfl
@[simp] theorem State.setPort_lastSeq (s : State) (p : Port) (x : PortState) : (s.setPort p x).lastSeq = s.lastSeq := rfl
@[simp] theorem State.setPort_lastReply (s : State) (p : Port) (x : PortState) : (s.setPort p x).lastReply = s.lastReply := rfl
@[simp] theorem State.setPort_boardOut (s : State) (p : Port) (x : PortState) : (s.setPort p x).boardOut = s.boardOut := rfl
@[simp] theorem State.setPort_draw (s : State) (p : Port) (x : PortState) : (s.setPort p x).draw = s.draw := rfl
@[simp] theorem State.setPort_plan (s : State) (p : Port) (x : PortState) : (s.setPort p x).plan = s.plan := rfl
@[simp] theorem State.setPort_fifo (s : State) (p : Port) (x : PortState) : (s.setPort p x).fifo = s.fifo := rfl
@[simp] theorem State.setPort_lineReady (s : State) (p : Port) (x : PortState) : (s.setPort p x).lineReady = s.lineReady := rfl
@[simp] theorem State.setPort_packCounter (s : State) (p : Port) (x : PortState) : (s.setPort p x).packCounter = s.packCounter := rfl
@[simp] theorem State.setPort_silence (s : State) (p : Port) (x : PortState) : (s.setPort p x).silence = s.silence := rfl
@[simp] theorem State.setPort_blocked (s : State) (p : Port) (x : PortState) : (s.setPort p x).blocked = s.blocked := rfl
@[simp] theorem State.setPort_packs (s : State) (p : Port) (x : PortState) : (s.setPort p x).packs = s.packs := rfl
@[simp] theorem State.setPort_labelQueue (s : State) (p : Port) (x : PortState) : (s.setPort p x).labelQueue = s.labelQueue := rfl
@[simp] theorem State.setPort_chamber (s : State) (p : Port) (x : PortState) (d : ChamberNo) : (s.setPort p x).chamber d = s.chamber d := rfl
@[simp] theorem State.setPort_bank (s : State) (p : Port) (x : PortState) (d : ChamberNo) : (s.setPort p x).bank d = s.bank d := rfl
@[simp] theorem State.setPort_monitor (s : State) (p : Port) (x : PortState) (d : ChamberNo) : (s.setPort p x).monitor d = s.monitor d := rfl
@[simp] theorem State.setPort_eventRing (s : State) (p : Port) (x : PortState) (d : ChamberNo) : (s.setPort p x).eventRing d = s.eventRing d := rfl
@[simp] theorem State.setPort_charge (s : State) (p : Port) (x : PortState) (d : Fin 8) : (s.setPort p x).charge d = s.charge d := rfl
@[simp] theorem State.setPort_pack (s : State) (p : Port) (x : PortState) (d : Fin 16) : (s.setPort p x).pack d = s.pack d := rfl

/-! ### `State.setRx` -/

@[simp] theorem State.setRx_pending (s : State) (p : Port) (rx : PortRx) : (s.setRx p rx).pending = s.pending := rfl
@[simp] theorem State.setRx_clock (s : State) (p : Port) (rx : PortRx) : (s.setRx p rx).clock = s.clock := rfl
@[simp] theorem State.setRx_power (s : State) (p : Port) (rx : PortRx) : (s.setRx p rx).power = s.power := rfl
@[simp] theorem State.setRx_baud (s : State) (p : Port) (rx : PortRx) : (s.setRx p rx).baud = s.baud := rfl
@[simp] theorem State.setRx_probeRx (s : State) (p : Port) (rx : PortRx) : (s.setRx p rx).probeRx = s.probeRx := rfl
@[simp] theorem State.setRx_boardRx (s : State) (p : Port) (rx : PortRx) : (s.setRx p rx).boardRx = s.boardRx := rfl
@[simp] theorem State.setRx_chambers (s : State) (p : Port) (rx : PortRx) : (s.setRx p rx).chambers = s.chambers := rfl
@[simp] theorem State.setRx_probes (s : State) (p : Port) (rx : PortRx) : (s.setRx p rx).probes = s.probes := rfl
@[simp] theorem State.setRx_doors (s : State) (p : Port) (rx : PortRx) : (s.setRx p rx).doors = s.doors := rfl
@[simp] theorem State.setRx_rings (s : State) (p : Port) (rx : PortRx) : (s.setRx p rx).rings = s.rings := rfl
@[simp] theorem State.setRx_schedules (s : State) (p : Port) (rx : PortRx) : (s.setRx p rx).schedules = s.schedules := rfl
@[simp] theorem State.setRx_staging (s : State) (p : Port) (rx : PortRx) : (s.setRx p rx).staging = s.staging := rfl
@[simp] theorem State.setRx_species (s : State) (p : Port) (rx : PortRx) : (s.setRx p rx).species = s.species := rfl
@[simp] theorem State.setRx_charges (s : State) (p : Port) (rx : PortRx) : (s.setRx p rx).charges = s.charges := rfl
@[simp] theorem State.setRx_chargeCounter (s : State) (p : Port) (rx : PortRx) : (s.setRx p rx).chargeCounter = s.chargeCounter := rfl
@[simp] theorem State.setRx_lastSeq (s : State) (p : Port) (rx : PortRx) : (s.setRx p rx).lastSeq = s.lastSeq := rfl
@[simp] theorem State.setRx_lastReply (s : State) (p : Port) (rx : PortRx) : (s.setRx p rx).lastReply = s.lastReply := rfl
@[simp] theorem State.setRx_boardOut (s : State) (p : Port) (rx : PortRx) : (s.setRx p rx).boardOut = s.boardOut := rfl
@[simp] theorem State.setRx_draw (s : State) (p : Port) (rx : PortRx) : (s.setRx p rx).draw = s.draw := rfl
@[simp] theorem State.setRx_plan (s : State) (p : Port) (rx : PortRx) : (s.setRx p rx).plan = s.plan := rfl
@[simp] theorem State.setRx_fifo (s : State) (p : Port) (rx : PortRx) : (s.setRx p rx).fifo = s.fifo := rfl
@[simp] theorem State.setRx_lineReady (s : State) (p : Port) (rx : PortRx) : (s.setRx p rx).lineReady = s.lineReady := rfl
@[simp] theorem State.setRx_packCounter (s : State) (p : Port) (rx : PortRx) : (s.setRx p rx).packCounter = s.packCounter := rfl
@[simp] theorem State.setRx_silence (s : State) (p : Port) (rx : PortRx) : (s.setRx p rx).silence = s.silence := rfl
@[simp] theorem State.setRx_blocked (s : State) (p : Port) (rx : PortRx) : (s.setRx p rx).blocked = s.blocked := rfl
@[simp] theorem State.setRx_packs (s : State) (p : Port) (rx : PortRx) : (s.setRx p rx).packs = s.packs := rfl
@[simp] theorem State.setRx_labelQueue (s : State) (p : Port) (rx : PortRx) : (s.setRx p rx).labelQueue = s.labelQueue := rfl
@[simp] theorem State.setRx_chamber (s : State) (p : Port) (rx : PortRx) (d : ChamberNo) : (s.setRx p rx).chamber d = s.chamber d := rfl
@[simp] theorem State.setRx_bank (s : State) (p : Port) (rx : PortRx) (d : ChamberNo) : (s.setRx p rx).bank d = s.bank d := rfl
@[simp] theorem State.setRx_monitor (s : State) (p : Port) (rx : PortRx) (d : ChamberNo) : (s.setRx p rx).monitor d = s.monitor d := rfl
@[simp] theorem State.setRx_eventRing (s : State) (p : Port) (rx : PortRx) (d : ChamberNo) : (s.setRx p rx).eventRing d = s.eventRing d := rfl
@[simp] theorem State.setRx_charge (s : State) (p : Port) (rx : PortRx) (d : Fin 8) : (s.setRx p rx).charge d = s.charge d := rfl
@[simp] theorem State.setRx_pack (s : State) (p : Port) (rx : PortRx) (d : Fin 16) : (s.setRx p rx).pack d = s.pack d := rfl

/-! ### `State.respond` -/

@[simp] theorem State.respond_pending (s : State) (p : Port) (code tag : Byte) (a : Answer) : (s.respond p code tag a).pending = s.pending := rfl
@[simp] theorem State.respond_clock (s : State) (p : Port) (code tag : Byte) (a : Answer) : (s.respond p code tag a).clock = s.clock := rfl
@[simp] theorem State.respond_power (s : State) (p : Port) (code tag : Byte) (a : Answer) : (s.respond p code tag a).power = s.power := rfl
@[simp] theorem State.respond_baud (s : State) (p : Port) (code tag : Byte) (a : Answer) : (s.respond p code tag a).baud = s.baud := rfl
@[simp] theorem State.respond_probeRx (s : State) (p : Port) (code tag : Byte) (a : Answer) : (s.respond p code tag a).probeRx = s.probeRx := rfl
@[simp] theorem State.respond_boardRx (s : State) (p : Port) (code tag : Byte) (a : Answer) : (s.respond p code tag a).boardRx = s.boardRx := rfl
@[simp] theorem State.respond_chambers (s : State) (p : Port) (code tag : Byte) (a : Answer) : (s.respond p code tag a).chambers = s.chambers := rfl
@[simp] theorem State.respond_probes (s : State) (p : Port) (code tag : Byte) (a : Answer) : (s.respond p code tag a).probes = s.probes := rfl
@[simp] theorem State.respond_doors (s : State) (p : Port) (code tag : Byte) (a : Answer) : (s.respond p code tag a).doors = s.doors := rfl
@[simp] theorem State.respond_rings (s : State) (p : Port) (code tag : Byte) (a : Answer) : (s.respond p code tag a).rings = s.rings := rfl
@[simp] theorem State.respond_schedules (s : State) (p : Port) (code tag : Byte) (a : Answer) : (s.respond p code tag a).schedules = s.schedules := rfl
@[simp] theorem State.respond_staging (s : State) (p : Port) (code tag : Byte) (a : Answer) : (s.respond p code tag a).staging = s.staging := rfl
@[simp] theorem State.respond_species (s : State) (p : Port) (code tag : Byte) (a : Answer) : (s.respond p code tag a).species = s.species := rfl
@[simp] theorem State.respond_charges (s : State) (p : Port) (code tag : Byte) (a : Answer) : (s.respond p code tag a).charges = s.charges := rfl
@[simp] theorem State.respond_chargeCounter (s : State) (p : Port) (code tag : Byte) (a : Answer) : (s.respond p code tag a).chargeCounter = s.chargeCounter := rfl
@[simp] theorem State.respond_lastSeq (s : State) (p : Port) (code tag : Byte) (a : Answer) : (s.respond p code tag a).lastSeq = s.lastSeq := rfl
@[simp] theorem State.respond_lastReply (s : State) (p : Port) (code tag : Byte) (a : Answer) : (s.respond p code tag a).lastReply = s.lastReply := rfl
@[simp] theorem State.respond_boardOut (s : State) (p : Port) (code tag : Byte) (a : Answer) : (s.respond p code tag a).boardOut = s.boardOut := rfl
@[simp] theorem State.respond_draw (s : State) (p : Port) (code tag : Byte) (a : Answer) : (s.respond p code tag a).draw = s.draw := rfl
@[simp] theorem State.respond_plan (s : State) (p : Port) (code tag : Byte) (a : Answer) : (s.respond p code tag a).plan = s.plan := rfl
@[simp] theorem State.respond_fifo (s : State) (p : Port) (code tag : Byte) (a : Answer) : (s.respond p code tag a).fifo = s.fifo := rfl
@[simp] theorem State.respond_lineReady (s : State) (p : Port) (code tag : Byte) (a : Answer) : (s.respond p code tag a).lineReady = s.lineReady := rfl
@[simp] theorem State.respond_packCounter (s : State) (p : Port) (code tag : Byte) (a : Answer) : (s.respond p code tag a).packCounter = s.packCounter := rfl
@[simp] theorem State.respond_silence (s : State) (p : Port) (code tag : Byte) (a : Answer) : (s.respond p code tag a).silence = s.silence := rfl
@[simp] theorem State.respond_blocked (s : State) (p : Port) (code tag : Byte) (a : Answer) : (s.respond p code tag a).blocked = s.blocked := rfl
@[simp] theorem State.respond_packs (s : State) (p : Port) (code tag : Byte) (a : Answer) : (s.respond p code tag a).packs = s.packs := rfl
@[simp] theorem State.respond_labelQueue (s : State) (p : Port) (code tag : Byte) (a : Answer) : (s.respond p code tag a).labelQueue = s.labelQueue := rfl
@[simp] theorem State.respond_chamber (s : State) (p : Port) (code tag : Byte) (a : Answer) (d : ChamberNo) : (s.respond p code tag a).chamber d = s.chamber d := rfl
@[simp] theorem State.respond_bank (s : State) (p : Port) (code tag : Byte) (a : Answer) (d : ChamberNo) : (s.respond p code tag a).bank d = s.bank d := rfl
@[simp] theorem State.respond_monitor (s : State) (p : Port) (code tag : Byte) (a : Answer) (d : ChamberNo) : (s.respond p code tag a).monitor d = s.monitor d := rfl
@[simp] theorem State.respond_eventRing (s : State) (p : Port) (code tag : Byte) (a : Answer) (d : ChamberNo) : (s.respond p code tag a).eventRing d = s.eventRing d := rfl
@[simp] theorem State.respond_charge (s : State) (p : Port) (code tag : Byte) (a : Answer) (d : Fin 8) : (s.respond p code tag a).charge d = s.charge d := rfl
@[simp] theorem State.respond_pack (s : State) (p : Port) (code tag : Byte) (a : Answer) (d : Fin 16) : (s.respond p code tag a).pack d = s.pack d := rfl

/-! ### `State.raise` -/

@[simp] theorem State.raise_pending (s : State) (n : Notice) : (s.raise n).pending = s.pending := rfl
@[simp] theorem State.raise_clock (s : State) (n : Notice) : (s.raise n).clock = s.clock := rfl
@[simp] theorem State.raise_power (s : State) (n : Notice) : (s.raise n).power = s.power := rfl
@[simp] theorem State.raise_baud (s : State) (n : Notice) : (s.raise n).baud = s.baud := rfl
@[simp] theorem State.raise_probeRx (s : State) (n : Notice) : (s.raise n).probeRx = s.probeRx := rfl
@[simp] theorem State.raise_boardRx (s : State) (n : Notice) : (s.raise n).boardRx = s.boardRx := rfl
@[simp] theorem State.raise_chambers (s : State) (n : Notice) : (s.raise n).chambers = s.chambers := rfl
@[simp] theorem State.raise_probes (s : State) (n : Notice) : (s.raise n).probes = s.probes := rfl
@[simp] theorem State.raise_doors (s : State) (n : Notice) : (s.raise n).doors = s.doors := rfl
@[simp] theorem State.raise_rings (s : State) (n : Notice) : (s.raise n).rings = s.rings := rfl
@[simp] theorem State.raise_schedules (s : State) (n : Notice) : (s.raise n).schedules = s.schedules := rfl
@[simp] theorem State.raise_staging (s : State) (n : Notice) : (s.raise n).staging = s.staging := rfl
@[simp] theorem State.raise_species (s : State) (n : Notice) : (s.raise n).species = s.species := rfl
@[simp] theorem State.raise_charges (s : State) (n : Notice) : (s.raise n).charges = s.charges := rfl
@[simp] theorem State.raise_chargeCounter (s : State) (n : Notice) : (s.raise n).chargeCounter = s.chargeCounter := rfl
@[simp] theorem State.raise_lastSeq (s : State) (n : Notice) : (s.raise n).lastSeq = s.lastSeq := rfl
@[simp] theorem State.raise_lastReply (s : State) (n : Notice) : (s.raise n).lastReply = s.lastReply := rfl
@[simp] theorem State.raise_boardOut (s : State) (n : Notice) : (s.raise n).boardOut = s.boardOut := rfl
@[simp] theorem State.raise_draw (s : State) (n : Notice) : (s.raise n).draw = s.draw := rfl
@[simp] theorem State.raise_plan (s : State) (n : Notice) : (s.raise n).plan = s.plan := rfl
@[simp] theorem State.raise_fifo (s : State) (n : Notice) : (s.raise n).fifo = s.fifo := rfl
@[simp] theorem State.raise_lineReady (s : State) (n : Notice) : (s.raise n).lineReady = s.lineReady := rfl
@[simp] theorem State.raise_packCounter (s : State) (n : Notice) : (s.raise n).packCounter = s.packCounter := rfl
@[simp] theorem State.raise_silence (s : State) (n : Notice) : (s.raise n).silence = s.silence := rfl
@[simp] theorem State.raise_blocked (s : State) (n : Notice) : (s.raise n).blocked = s.blocked := rfl
@[simp] theorem State.raise_packs (s : State) (n : Notice) : (s.raise n).packs = s.packs := rfl
@[simp] theorem State.raise_labelQueue (s : State) (n : Notice) : (s.raise n).labelQueue = s.labelQueue := rfl
@[simp] theorem State.raise_chamber (s : State) (n : Notice) (d : ChamberNo) : (s.raise n).chamber d = s.chamber d := rfl
@[simp] theorem State.raise_bank (s : State) (n : Notice) (d : ChamberNo) : (s.raise n).bank d = s.bank d := rfl
@[simp] theorem State.raise_monitor (s : State) (n : Notice) (d : ChamberNo) : (s.raise n).monitor d = s.monitor d := rfl
@[simp] theorem State.raise_eventRing (s : State) (n : Notice) (d : ChamberNo) : (s.raise n).eventRing d = s.eventRing d := rfl
@[simp] theorem State.raise_charge (s : State) (n : Notice) (d : Fin 8) : (s.raise n).charge d = s.charge d := rfl
@[simp] theorem State.raise_pack (s : State) (n : Notice) (d : Fin 16) : (s.raise n).pack d = s.pack d := rfl

/-! ### `State.offer` -/

@[simp] theorem State.offer_pending (s : State) (c : ChamberNo) (ev : Event) : (s.offer c ev).pending = s.pending := rfl
@[simp] theorem State.offer_clock (s : State) (c : ChamberNo) (ev : Event) : (s.offer c ev).clock = s.clock := rfl
@[simp] theorem State.offer_power (s : State) (c : ChamberNo) (ev : Event) : (s.offer c ev).power = s.power := rfl
@[simp] theorem State.offer_baud (s : State) (c : ChamberNo) (ev : Event) : (s.offer c ev).baud = s.baud := rfl
@[simp] theorem State.offer_probeRx (s : State) (c : ChamberNo) (ev : Event) : (s.offer c ev).probeRx = s.probeRx := rfl
@[simp] theorem State.offer_boardRx (s : State) (c : ChamberNo) (ev : Event) : (s.offer c ev).boardRx = s.boardRx := rfl
@[simp] theorem State.offer_chambers (s : State) (c : ChamberNo) (ev : Event) : (s.offer c ev).chambers = s.chambers := rfl
@[simp] theorem State.offer_probes (s : State) (c : ChamberNo) (ev : Event) : (s.offer c ev).probes = s.probes := rfl
@[simp] theorem State.offer_doors (s : State) (c : ChamberNo) (ev : Event) : (s.offer c ev).doors = s.doors := rfl
@[simp] theorem State.offer_schedules (s : State) (c : ChamberNo) (ev : Event) : (s.offer c ev).schedules = s.schedules := rfl
@[simp] theorem State.offer_staging (s : State) (c : ChamberNo) (ev : Event) : (s.offer c ev).staging = s.staging := rfl
@[simp] theorem State.offer_species (s : State) (c : ChamberNo) (ev : Event) : (s.offer c ev).species = s.species := rfl
@[simp] theorem State.offer_charges (s : State) (c : ChamberNo) (ev : Event) : (s.offer c ev).charges = s.charges := rfl
@[simp] theorem State.offer_chargeCounter (s : State) (c : ChamberNo) (ev : Event) : (s.offer c ev).chargeCounter = s.chargeCounter := rfl
@[simp] theorem State.offer_lastSeq (s : State) (c : ChamberNo) (ev : Event) : (s.offer c ev).lastSeq = s.lastSeq := rfl
@[simp] theorem State.offer_lastReply (s : State) (c : ChamberNo) (ev : Event) : (s.offer c ev).lastReply = s.lastReply := rfl
@[simp] theorem State.offer_boardOut (s : State) (c : ChamberNo) (ev : Event) : (s.offer c ev).boardOut = s.boardOut := rfl
@[simp] theorem State.offer_draw (s : State) (c : ChamberNo) (ev : Event) : (s.offer c ev).draw = s.draw := rfl
@[simp] theorem State.offer_plan (s : State) (c : ChamberNo) (ev : Event) : (s.offer c ev).plan = s.plan := rfl
@[simp] theorem State.offer_fifo (s : State) (c : ChamberNo) (ev : Event) : (s.offer c ev).fifo = s.fifo := rfl
@[simp] theorem State.offer_lineReady (s : State) (c : ChamberNo) (ev : Event) : (s.offer c ev).lineReady = s.lineReady := rfl
@[simp] theorem State.offer_packCounter (s : State) (c : ChamberNo) (ev : Event) : (s.offer c ev).packCounter = s.packCounter := rfl
@[simp] theorem State.offer_silence (s : State) (c : ChamberNo) (ev : Event) : (s.offer c ev).silence = s.silence := rfl
@[simp] theorem State.offer_blocked (s : State) (c : ChamberNo) (ev : Event) : (s.offer c ev).blocked = s.blocked := rfl
@[simp] theorem State.offer_packs (s : State) (c : ChamberNo) (ev : Event) : (s.offer c ev).packs = s.packs := rfl
@[simp] theorem State.offer_labelQueue (s : State) (c : ChamberNo) (ev : Event) : (s.offer c ev).labelQueue = s.labelQueue := rfl
@[simp] theorem State.offer_chamber (s : State) (c : ChamberNo) (ev : Event) (d : ChamberNo) : (s.offer c ev).chamber d = s.chamber d := rfl
@[simp] theorem State.offer_bank (s : State) (c : ChamberNo) (ev : Event) (d : ChamberNo) : (s.offer c ev).bank d = s.bank d := rfl
@[simp] theorem State.offer_monitor (s : State) (c : ChamberNo) (ev : Event) (d : ChamberNo) : (s.offer c ev).monitor d = s.monitor d := rfl
@[simp] theorem State.offer_charge (s : State) (c : ChamberNo) (ev : Event) (d : Fin 8) : (s.offer c ev).charge d = s.charge d := rfl
@[simp] theorem State.offer_pack (s : State) (c : ChamberNo) (ev : Event) (d : Fin 16) : (s.offer c ev).pack d = s.pack d := rfl

/-! ### Reading after replacing -/

@[simp] theorem State.chamber_setChamber_same (s : State) (c : ChamberNo) (x : Chamber) : (s.setChamber c x).chamber c = x := by
  simp [State.chamber, State.setChamber]

theorem State.chamber_setChamber_other (s : State) {c d : ChamberNo} (x : Chamber) (h : c ≠ d) :
    (s.setChamber c x).chamber d = s.chamber d := by
  simp only [State.chamber, State.setChamber, Fin.getElem_fin]
  exact Vector.getElem_set_ne _ _ (fun e => h (Fin.ext e))

@[simp] theorem State.chamber_modChamber_same (s : State) (c : ChamberNo) (f : Chamber → Chamber) :
    (s.modChamber c f).chamber c = f (s.chamber c) := by
  simp [State.modChamber]

@[simp] theorem State.bank_setBank_same (s : State) (c : ChamberNo) (x : ProbeBank) : (s.setBank c x).bank c = x := by
  simp [State.bank, State.setBank]

theorem State.bank_setBank_other (s : State) {c d : ChamberNo} (x : ProbeBank) (h : c ≠ d) :
    (s.setBank c x).bank d = s.bank d := by
  simp only [State.bank, State.setBank, Fin.getElem_fin]
  exact Vector.getElem_set_ne _ _ (fun e => h (Fin.ext e))

@[simp] theorem State.monitor_setMonitor_same (s : State) (c : ChamberNo) (x : DoorMonitor) : (s.setMonitor c x).monitor c = x := by
  simp [State.monitor, State.setMonitor]

theorem State.monitor_setMonitor_other (s : State) {c d : ChamberNo} (x : DoorMonitor) (h : c ≠ d) :
    (s.setMonitor c x).monitor d = s.monitor d := by
  simp only [State.monitor, State.setMonitor, Fin.getElem_fin]
  exact Vector.getElem_set_ne _ _ (fun e => h (Fin.ext e))

@[simp] theorem State.eventRing_setRing_same (s : State) (c : ChamberNo) (x : EventRing) : (s.setRing c x).eventRing c = x := by
  simp [State.eventRing, State.setRing]

theorem State.eventRing_setRing_other (s : State) {c d : ChamberNo} (x : EventRing) (h : c ≠ d) :
    (s.setRing c x).eventRing d = s.eventRing d := by
  simp only [State.eventRing, State.setRing, Fin.getElem_fin]
  exact Vector.getElem_set_ne _ _ (fun e => h (Fin.ext e))

@[simp] theorem State.charge_setCharge_same (s : State) (k : Fin 8) (x : Option Charge) : (s.setCharge k x).charge k = x := by
  simp [State.charge, State.setCharge]

theorem State.charge_setCharge_other (s : State) {j k : Fin 8} (x : Option Charge) (h : k ≠ j) :
    (s.setCharge k x).charge j = s.charge j := by
  simp only [State.charge, State.setCharge, Fin.getElem_fin]
  exact Vector.getElem_set_ne _ _ (fun e => h (Fin.ext e))

@[simp] theorem State.charge_modCharge_same (s : State) (k : Fin 8) (f : Charge → Charge) :
    (s.modCharge k f).charge k = (s.charge k).map f := by
  simp [State.modCharge]

theorem State.charge_modCharge_other (s : State) {j k : Fin 8} (f : Charge → Charge) (h : k ≠ j) :
    (s.modCharge k f).charge j = s.charge j := State.charge_setCharge_other s _ h

@[simp] theorem State.pack_setPack_same (s : State) (k : Fin 16) (x : Option Pack) : (s.setPack k x).pack k = x := by
  simp [State.pack, State.setPack]

theorem State.pack_setPack_other (s : State) {j k : Fin 16} (x : Option Pack) (h : k ≠ j) :
    (s.setPack k x).pack j = s.pack j := by
  simp only [State.pack, State.setPack, Fin.getElem_fin]
  exact Vector.getElem_set_ne _ _ (fun e => h (Fin.ext e))

@[simp] theorem State.port_setPort_same (s : State) (p : Port) (x : PortState) : (s.setPort p x).port p = x := by
  cases p <;> rfl

theorem State.port_setPort_other (s : State) {p q : Port} (x : PortState) (h : p ≠ q) : (s.setPort p x).port q = s.port q := by
  cases p <;> cases q <;> first | rfl | exact absurd rfl h

end Sys2Proof.Machine
end

