-- ==== Sys2Proof/Laws/Ops.lean ====
section
/-! SUPPORT. What each shared operation can do, said once: passing a request to its owner, raising a notice, offering an event,
finding a record by its number, changing a charge through a link, and closing a pack. -/

namespace Sys2Proof.Machine

/-! ### Requests -/

/-- Everything a request frame can do when it answers a next state. -/
theorem request_next {r : Request} {p : Port} {tag : Byte} {owner : State → Owned} {s t : State}
    (h : request r p tag owner s = .next t) :
    (s.takesFrame p = false ∧ t = s) ∨
    (s.takesFrame p = true ∧ r.permitted p = false ∧ t = s.respond p r.code tag ⟨.notPermitted, []⟩) ∨
    (s.takesFrame p = true ∧ r.permitted p = true ∧ ∃ u a, owner s = some (u, a) ∧ t = u.respond p r.code tag a) := by
  unfold request at h
  split at h
  · rename_i ht
    split at h
    · rename_i hp
      split at h
      · rename_i u a ho
        cases h
        exact .inr (.inr ⟨ht, hp, u, a, ho, rfl⟩)
      · cases h
    · rename_i hp
      cases h
      exact .inr (.inl ⟨ht, by simpa using hp, rfl⟩)
  · rename_i ht
    cases h
    exact .inl ⟨by simpa using ht, rfl⟩

/-- A request that a permitted port's controller takes is answered as its owner says. -/
theorem request_taken {r : Request} {p : Port} {tag : Byte} {owner : State → Owned} {s u : State} {a : Answer}
    (ht : s.takesFrame p = true) (hp : r.permitted p = true) (ho : owner s = some (u, a)) :
    request r p tag owner s = .next (u.respond p r.code tag a) := by
  simp [request, ht, hp, ho]

/-- A request whose owner refuses it leaves the rest of the state as it was. -/
theorem request_refused {r : Request} {p : Port} {tag : Byte} {owner : State → Owned} {s : State} {st : Status}
    (ht : s.takesFrame p = true) (hp : r.permitted p = true) (ho : owner s = refuse st s) :
    request r p tag owner s = .next (s.respond p r.code tag ⟨st, []⟩) :=
  request_taken ht hp ho

/-- A request stops only where its owner finds a link that leads to no record. -/
theorem request_stops_iff {r : Request} {p : Port} {tag : Byte} {owner : State → Owned} {s : State} :
    (∀ t, request r p tag owner s ≠ .next t) ↔ s.takesFrame p = true ∧ r.permitted p = true ∧ owner s = none := by
  unfold request
  split
  · rename_i ht
    split
    · rename_i hp
      split
      · rename_i u a ho
        simp [ht, hp, ho]
      · rename_i ho
        simp [ht, hp, ho]
    · rename_i hp
      simp [ht, hp]
  · rename_i ht
    simp [ht]

/-- An owner whose first parameter is a chamber refuses a number outside 0..3. -/
theorem withChamber_outside {b : Byte} {k : ChamberNo → State → Owned} {s : State} (h : 4 ≤ b.toNat) :
    withChamber b k s = refuse .outOfRange s := by
  simp [withChamber, finOf, Nat.not_lt.mpr h]

/-- An owner whose first parameter is a chamber hands its number on. -/
theorem withChamber_inside {b : Byte} {c : ChamberNo} {k : ChamberNo → State → Owned} {s : State} (h : b.toNat = c.val) :
    withChamber b k s = k c s := by
  have : b.toNat < 4 := h ▸ c.isLt
  simp only [withChamber, finOf, this, dite_true]
  congr

/-- The index a byte carries. -/
theorem finOf_eq_some {n : Nat} {b : Byte} {i : Fin n} : finOf n b = some i ↔ b.toNat = i.val := by
  unfold finOf
  split
  · rename_i h
    simp [Fin.ext_iff]
  · rename_i h
    simp only [reduceCtorEq, false_iff]
    exact fun e => h (e ▸ i.isLt)

/-- A byte at or beyond the count carries no index. -/
theorem finOf_eq_none {n : Nat} {b : Byte} : finOf n b = none ↔ n ≤ b.toNat := by
  unfold finOf
  split <;> simp <;> omega

/-- An operation through links stops exactly when one leads to no record. -/
theorem orBroken_eq_next {o : Option State} {t : State} : orBroken o = .next t ↔ o = some t := by
  cases o <;> simp [orBroken]

/-- What is only taken while main power is on does nothing while it is off. -/
theorem whilePowered_eq {s : State} {o : Host.Outcome State Fault Refusal} :
    whilePowered s o = if s.power.main = true then o else .next s := rfl

/-! ### Notices and events -/

/-- A raising reaches the ports R159 names, and changes nothing but their pending sets. -/
theorem port_raise (s : State) (n : Notice) (p : Port) :
    (s.raise n).port p =
      if n.raisedTo p then { s.port p with pending := (s.port p).pending ||| n.bit } else s.port p := by
  cases p <;> rfl

/-- An event of a disabled group changes nothing (R97). -/
theorem offer_disabled {s : State} {c : ChamberNo} {ev : Event} (h : (s.chamber c).settings.enables ev = false) :
    s.offer c ev = s := by
  have hv : (s.eventRing c).verdict (s.chamber c).settings ev = .disabled := by simp [EventRing.verdict, h]
  have ha : (s.eventRing c).after (s.chamber c).settings ev (s.entryOf c ev) = s.eventRing c := by
    simp [EventRing.after, hv]
  have hr : (s.eventRing c).raises (s.chamber c).settings ev = false := by simp [EventRing.raises, hv]
  rw [State.offer, ha, hr]
  simp [State.eventRing]

/-- An offered event changes one ring, and no port but for the RING notice. -/
theorem eventRing_offer (s : State) (c d : ChamberNo) (ev : Event) :
    (s.offer c ev).eventRing d =
      if c = d then (s.eventRing c).after (s.chamber c).settings ev (s.entryOf c ev) else s.eventRing d := by
  by_cases h : c = d
  · subst h
    simp [State.eventRing, State.offer]
  · simp only [h, if_false, State.eventRing, State.offer, Fin.getElem_fin]
    exact Vector.getElem_set_ne _ _ (fun e => h (Fin.ext e))

/-- A port keeps its receive state, cursor and mask through an offered event. -/
theorem port_offer (s : State) (c : ChamberNo) (ev : Event) (p : Port) :
    (s.offer c ev).port p = (s.raise .ring).port p ∨ (s.offer c ev).port p = s.port p := by
  unfold State.offer
  by_cases h : (s.eventRing c).raises (s.chamber c).settings ev
  · left
    simp [h, State.port, State.raise]
  · right
    simp [h, State.port]

/-! ### Charges through links -/

/-- A change through a binding that leads to no charge changes nothing. -/
theorem modBound_none {s : State} {c : ChamberNo} (f : Charge → Charge) (h : (s.chamber c).chargeSlot = none) :
    s.modBound c f = s := by
  simp [State.modBound, h]

/-- A change through a whole binding is a change of that charge. -/
theorem modBound_some {s : State} {c : ChamberNo} {k : Fin 8} (f : Charge → Charge) (h : (s.chamber c).chargeSlot = some k) :
    s.modBound c f = s.modCharge k f := by
  simp [State.modBound, h, State.modCharge, State.setCharge]

/-- A found charge stands in its slot, carries the ID, and the ID is not 0. -/
theorem chargeById_some {s : State} {id : Nat} {k : Fin 8} {ch : Charge} (h : s.chargeById id = some (k, ch)) :
    s.charge k = some ch ∧ ch.id = id ∧ id ≠ 0 := by
  unfold State.chargeById at h
  split at h
  · rename_i j hj
    unfold State.findCharge at hj
    split at hj
    · cases hj
    · rename_i h0
      have hp := List.find?_some hj
      cases hc : s.charge j with
      | none => simp [hc] at h
      | some x =>
        simp only [hc, Option.map_some, Option.some.injEq, Prod.mk.injEq] at h
        obtain ⟨rfl, rfl⟩ := h
        simp only [hc, beq_iff_eq] at hp
        exact ⟨hc, hp, h0⟩
  · cases h

/-- The bound charge is the record of the chamber's charge slot. -/
theorem bound_eq_some {s : State} {c : ChamberNo} {k : Fin 8} {ch : Charge} :
    s.bound c = some (k, ch) ↔ (s.chamber c).chargeSlot = some k ∧ s.charge k = some ch := by
  unfold State.bound
  split
  · rename_i j hj
    cases hc : s.charge j <;> simp [hj] <;> rintro rfl <;> simp [hc]
  · rename_i hj
    simp [hj]

/-! ### Packs -/

/-- A found OPEN pack stands OPEN in its slot. -/
theorem openPack_some {s : State} {k : Fin 16} {p : Pack} (h : s.openPack = some (k, p)) :
    s.pack k = some p ∧ p.state = .opened := by
  obtain ⟨j, -, hj⟩ := List.exists_of_findSome?_eq_some h
  cases hc : s.pack j with
  | none => simp [hc] at hj
  | some x =>
    simp only [hc] at hj
    split at hj
    · rename_i ho
      simp only [Option.some.injEq, Prod.mk.injEq] at hj
      obtain ⟨rfl, rfl⟩ := hj
      exact ⟨hc, by simpa using ho⟩
    · cases hj

/-- A pack found by its number stands in its slot with that number. -/
theorem packByNumber_some {s : State} {n : Nat} {k : Fin 16} {p : Pack} (h : s.packByNumber n = some (k, p)) :
    s.pack k = some p ∧ p.number = n := by
  obtain ⟨j, -, hj⟩ := List.exists_of_findSome?_eq_some h
  cases hc : s.pack j with
  | none => simp [hc] at hj
  | some x =>
    simp only [hc] at hj
    split at hj
    · rename_i ho
      simp only [Option.some.injEq, Prod.mk.injEq] at hj
      obtain ⟨rfl, rfl⟩ := hj
      exact ⟨hc, by simpa using ho⟩
    · cases hj

/-- The lowest FREE pack record is FREE. -/
theorem freePack_some {s : State} {k : Fin 16} (h : s.freePack = some k) : s.pack k = none := by
  simpa using List.find?_some h

/-- The blocked field and the BLOCK notice are all that R130's check can change. -/
theorem checkBlocked_cases (s : State) :
    s.checkBlocked = s ∨
      (s.tallyStuck = true ∧ s.blocked = false ∧
        s.checkBlocked = { s with blocked := true, ports := s.ports.raise .block }) := by
  unfold State.checkBlocked
  split
  · rename_i h
    simp only [Bool.and_eq_true, Bool.not_eq_true'] at h
    exact .inr ⟨h.1, h.2, rfl⟩
  · exact .inl rfl

/-- Everything a pack close does (R131), through the links of `closeView`. -/
theorem closePack_some {s t : State} {cause : CloseCause} {k : Fin 16} {p : Pack} (h : s.closePack cause k p = some t) :
    ∃ v, s.closeView p = some v ∧
      t = { s with
        packs := s.packs.set k (some (p.closed (labelOf cause s.clock p v)))
        charges := s.charges.set v.slot ((s.charge v.slot).map (Charge.packClosed p.number))
        labelQueue := s.labelQueue ++ [k]
        ports := s.ports.raise .label } := by
  simp only [State.closePack, Option.map_eq_some_iff] at h
  obtain ⟨v, hv, rfl⟩ := h
  exact ⟨v, hv, rfl⟩

/-- What a close reads is the record of the pack's charge slot, with the fields R139 says are present. -/
theorem closeView_some {s : State} {p : Pack} {v : CloseView} (h : s.closeView p = some v) :
    p.chargeSlot = some v.slot ∧ s.charge v.slot = some v.charge ∧ v.charge.finalStats = some v.final ∧
      v.charge.startTime = some v.start ∧ v.charge.endTime = some v.finish ∧ v.charge.remaining = some v.remaining := by
  unfold State.closeView at h
  split at h
  · cases h
  · rename_i k hk
    split at h
    · cases h
    · rename_i ch hc
      split at h
      · rename_i f a b r hf ha hb hr
        cases h
        exact ⟨hk, hc, hf, ha, hb, hr⟩
      · cases h

/-- A count that stays within 4,294,967,295 is exact (R5). -/
theorem addCount_exact {a b : Nat} (h : a + b ≤ 4294967295) : addCount a b = a + b := by
  simp [addCount, h]

end Sys2Proof.Machine
end

