-- ==== Sys2Proof/Tests/Slice0.lean ====
section
/-! SUPPORT. The model's own tests: the well-formedness checks, frames written out byte by byte, worked figures of the manual
one step at a time, and for every statement with hypotheses a state and operands that meet them. A hypothesis that only names a
value (x = …) is met by that value and is not repeated. -/

namespace Sys2Proof.Machine.Sample

/- The kernel runs of these tests are made one after another: side by side they ask for a stack each. -/
set_option Elab.async false

/-! ### Small states -/

/-- The state after a command, or the state before it when the command stops. -/
def after (i : Instr) (s : State) : State :=
  match exec i s with
  | .next t => t
  | .fault _ | .refused _ => s

/-- The command completes. -/
def completes (i : Instr) (s : State) : Bool :=
  match exec i s with
  | .next _ => true
  | .fault _ | .refused _ => false

/-- Port `p` stands in FRAME. -/
def framing (p : Port) (s : State) : State := s.setRx p (.frame 0)

/-- What port `p` is answering. -/
def answered (p : Port) (s : State) : Option (Status × List Byte) :=
  match (s.port p).rx with
  | .respond r => some (r.status, r.results)
  | .hunt | .frame _ => none

/-- What port `p` answers to a request that arrives there. -/
def answer (p : Port) (i : Instr) (s : State) : Option (Status × List Byte) := answered p (after i (framing p s))

/-- The species of the worked species record (chapter 2). -/
def oak : Species := ⟨#v[⟨600, 300⟩, ⟨700, 240⟩, ⟨800, 190⟩, ⟨900, 150⟩, ⟨1000, 110⟩, ⟨1150, 70⟩], 25⟩

/-- The steps of the worked schedule (chapter 2). -/
def hardwoodSteps : List Step :=
  [⟨.dry, .wettestHalf, 450, 430, 20, 1440, 0⟩, ⟨.dry, .wettestHalf, 350, 460, 30, 720, 10⟩,
   ⟨.dry, .wettestHalf, 280, 490, 50, 720, 10⟩, ⟨.dry, .wettestHalf, 220, 540, 80, 720, 15⟩,
   ⟨.dry, .wettestHalf, 160, 600, 140, 720, 20⟩, ⟨.dry, .wettestHalf, 80, 710, 250, 1440, 30⟩,
   ⟨.equalize, .wettestHalf, 75, 710, 80, 720, 0⟩, ⟨.condition, .mean, 0, 710, 40, 480, 0⟩]

/-- The worked schedule (chapter 2). -/
def hardwood : Schedule := ⟨70, 15, 400, 240, hardwoodSteps⟩

/-- The final statistics of the worked run (chapter 4). -/
def finals : Stats := ⟨12, some ⟨72, 69, 64, 76, 12⟩⟩

/-- Charge 12 of the worked run, in state `st`. -/
def wood (st : ChargeState) (c : Option ChamberNo) (rem : Option Nat) : Charge where
  id := 12
  species := 2
  schedule := 5
  targetMc := 70
  wetMargin := 15
  declared := 1800
  parent := none
  state := st
  chamber := c
  startTime := if st.pastKiln || st == .inKiln then some 2000000 else none
  endTime := if st.pastKiln then some 2590400 else none
  lastStats := none
  finalStats := if st.pastKiln then some finals else none
  doorOpenings := 0
  doorSeconds := 0
  graded := 0
  wet := 0
  rejected := 0
  unseen := 0
  remaining := rem
  overrun := 0
  packed := 0
  unmeasured := 0
  firstPack := none
  lastPack := none
  packsClosed := 0
  marks := 0#8

/-- Schedule 5 and species 2 are VALID. -/
def library : State :=
  { State.reset with schedules := State.reset.schedules.set 5 (some hardwood), species := State.reset.species.set 2 (some oak) }

/-- Charge 12 stands in slot 3 in state `st`, bound to no chamber. -/
def stored (st : ChargeState) (rem : Option Nat) : State := library.setCharge 3 (some (wood st none rem))

/-- Chamber 1 holds charge 12 in state `x`, at step `t`, with its countdown at 0 where it has one, and these commands waiting. -/
def kiln (x : ChamberState) (t : Nat) (queue : List RunCommand) : State :=
  let s := library.setCharge 3 (some (wood ((x.bindsIn).getD .assigned) (some 1) none))
  let s := s.setChamber 1 { s.chamber 1 with
    state := x
    returnState := if x == .doorHold then some .running else none
    chargeSlot := some 3
    stepIndex := if x == .loaded then none else some t
    drySetpoint := 385
    wetSetpoint := 335
    queue := queue
    countdown := if x.counts then some ⟨0, 0, 3600⟩ else none }
  if x == .doorHold then s.setMonitor 1 ⟨.opened, .opened, none, some ⟨0, false⟩⟩ else s

/-- Charge 12 is drawn from slot 3 with `rem` boards remaining, last sequence 200, and `n` records in the FIFO. -/
def line (ending auto : Bool) (rem n : Nat) : State :=
  { stored .onLine (some rem) with
    draw := some ⟨ending, 3, auto⟩
    fifo := List.replicate n ⟨3, some 66, 400⟩
    lastSeq := some 200#8
    lastReply := some ⟨200#8, .pack, .none⟩ }

/-- A pack of charge 12 in state `st`, one board short of its target of 200. -/
def bundle (st : PackState) (slot : Option (Fin 8)) (label : Option Label) (number : Nat) : Pack :=
  ⟨st, number, slot, 12, none, 2, 5, 25, 150, 200, 400, ⟨0, 0⟩, 199, 197, 2, 19500, some 114, 80000, label⟩

/-- The label of a closed pack. -/
def sticker : Label := ⟨.target, ⟨0, 0⟩, 3047, some 99, 100, some 104, 14, 4100000, 5210400, 2, 32, 0#8, none, .a, false⟩

/-- The probe receiver stands in FRAME. -/
def probing (s : State) : State := { s with probeRx := .frame 0 }

/-- The board receiver stands in FRAME. -/
def boarding (s : State) : State := { s with boardRx := .frame 0 }

/-- Main power is off, with the hold marker as given. -/
def dark (marker : Bool) (s : State) : State := { s with power := ⟨false, true, true, marker⟩ }

/-! ### Well-formedness -/

theorem test_wf_long_body : Instr.wf (.status .kiln 0#8 (List.replicate 63 0#8)) = false := by decide
theorem test_wf_longest_body : Instr.wf (.status .kiln 0#8 (List.replicate 62 0#8)) = true := by decide
theorem test_wf_code_names_request : Instr.wf (.unknownRequest .line 0x1E#8 0#8) = false := by decide
theorem test_wf_unknown_code : Instr.wf (.unknownRequest .line 0x1F#8 0#8) = true := by decide
theorem test_wf_length_good : Instr.wf (.portFrameBadLength .yard 2#8) = false := by decide
theorem test_wf_length_bad : Instr.wf (.portFrameBadLength .yard 65#8) = true := by decide

/-! ### Frames written out byte by byte from R174; their CRCs were computed outside the model -/

theorem test_frame_start : decodePortFrame .kiln [0x03#8, 0x02#8, 0x07#8, 0x01#8, 0xF8#8, 0xCA#8] =
    some (.start .kiln 0x07#8 [0x01#8]) := by decide +kernel
theorem test_frame_read : decodePortFrame .yard [0x02#8, 0x1A#8, 0x00#8, 0x4E#8, 0x44#8] = some (.read .yard 0x00#8 []) := by decide +kernel
theorem test_frame_draw : decodePortFrame .line [0x05#8, 0x0C#8, 0x09#8, 0x00#8, 0x07#8, 0x00#8, 0xAC#8, 0xDA#8] =
    some (.draw .line 0x09#8 [0x00#8, 0x07#8, 0x00#8]) := by decide +kernel
theorem test_frame_mark : decodePortFrame .kiln [0x06#8, 0x1E#8, 0x01#8, 0x02#8, 0x00#8, 0x07#8, 0x00#8, 0x14#8, 0x62#8] =
    some (.mark .kiln 0x01#8 [0x02#8, 0x00#8, 0x07#8, 0x00#8]) := by decide +kernel
theorem test_frame_bad_crc : decodePortFrame .kiln [0x05#8, 0x01#8, 0x20#8, 0x03#8, 0x00#8, 0x07#8, 0xF9#8, 0xB8#8] =
    some (.requestFrameCrcFail .kiln) := by decide +kernel
theorem test_frame_unknown : decodePortFrame .line [0x02#8, 0x1F#8, 0x05#8, 0xE1#8, 0x14#8] =
    some (.unknownRequest .line 0x1F#8 0x05#8) := by decide +kernel
theorem test_frame_bad_length : decodePortFrame .yard [0x01#8] = some (.portFrameBadLength .yard 0x01#8) := by decide +kernel
theorem test_no_table_word : decodeTableWord 8 1 = none := by decide +kernel

/-! ### Commands: figures of the manual's worked cases, one step each -/

/-- Chamber 1 LOADED with charge 12, twelve slots GOOD at 31.0 % and the dry-bulb slot GOOD at 38.5 °C (chapter 4, worked run). -/
def beforeStart : State :=
  let s := kiln .loaded 0 []
  s.setBank 1
    { s.bank 1 with
      samples := Vector.ofFn fun i => if i.val < 12 then { SampleSlot.cleared true with trust := .good 310 } else SampleSlot.cleared true
      dryBulb := { DryBulb.cleared with trust := .good 385 } }

/-- Chamber 1 in state `x` with slot 5 GOOD at 13.1 %, offset +0.6 %, and the dry-bulb slot GOOD at 61.2 °C (chapter 3, worked
conversions). -/
def beforeReading (x : ChamberState) (trust : SlotTrust) (offset : Int) : State :=
  let s := kiln x 2 []
  s.setBank 1
    { (s.bank 1).setSample 5 { SampleSlot.cleared true with trust := trust, offset := offset } with
      dryBulb := { DryBulb.cleared with trust := .good 612 } }

/-- The staging record of the worked schedule, with step 3's change-at and step 7's depression as given. -/
def staged (changeAt depression : BitVec 16) : State :=
  { library with staging :=
      ⟨⟨8, 70, 15, 400, 240⟩,
       #v[⟨0, 0, 450, 430, 20, 1440, 0⟩, ⟨0, 0, 350, 460, 30, 720, 10⟩, ⟨0, 0, 280, 490, 50, 720, 10⟩,
          ⟨0, 0, changeAt, 540, 80, 720, 15⟩, ⟨0, 0, 160, 600, 140, 720, 20⟩, ⟨0, 0, 80, 710, 250, 1440, 30⟩,
          ⟨1, 0, 75, 710, 80, 720, 0⟩, ⟨2, 1, 0, 710, depression, 480, 0⟩, ⟨9, 9, 999, 0, 0, 0, 0⟩, StagingStep.zero,
          StagingStep.zero, StagingStep.zero]⟩ }

/-- Port `p`'s cursor stands on a table. -/
def cursorAt (p : Port) (table : Table) (index : Nat) (advance readMark : Bool) (s : State) : State :=
  s.setPort p { s.port p with cursor := ⟨table, index, advance, readMark⟩ }

/-- The parameter bytes of a WRITE of the worked species record. -/
def oakBytes : List Byte := oak.points.toList.flatMap (fun b => u16 b.code ++ u16 b.mc) ++ u8 oak.coeff

/-- The worked queue of chapter 8: packs 70 and 71 ISSUED and 72 CLOSED in slots 4 to 6, and 73 OPEN in slot 7 with charge 12. -/
def labels : State :=
  let s := (((line false false 1200 1).setPack 4 (some (bundle .issued none (some sticker) 70))).setPack 5
    (some (bundle .issued none (some sticker) 71))).setPack 6 (some (bundle .closed none (some sticker) 72))
  { s.setPack 7 (some (bundle .opened (some 3) none 73)) with labelQueue := [4, 5, 6] }

theorem test_load : answer .kiln (.load .kiln 1#8 [1#8, 0#8, 12#8]) (stored .assigned none) = some (.ok, [1#8, 0#8, 12#8, 3#8]) := by
  decide
theorem test_start : answer .kiln (.start .kiln 1#8 [1#8]) beforeStart =
    some (.ok, [2#8, 0#8, 0x01#8, 0x81#8, 0x01#8, 0x4F#8]) := by decide +kernel
theorem test_hold : answer .kiln (.hold .kiln 1#8 [1#8]) (kiln .doorHold 4 []) = some (.queued, [1#8]) := by decide
theorem test_resume : answer .kiln (.resume .kiln 1#8 [1#8]) (kiln .held 4 [.hold]) = some (.queued, [2#8]) := by decide
theorem test_step : answer .kiln (.step .kiln 1#8 [1#8]) (kiln .running 4 [.hold, .hold, .hold, .hold]) = some (.queueFull, []) := by
  decide
theorem test_skip_phase : answer .kiln (.skipPhase .kiln 1#8 [1#8]) (kiln .cooling 7 []) = some (.wrongState, []) := by decide
theorem test_abort : answer .kiln (.abort .kiln 1#8 [1#8]) (kiln .running 4 []) = some (.ok, [5#8]) := by decide
theorem test_abort_marks :
    ((after (.abort .kiln 1#8 [1#8]) (framing .kiln (kiln .running 4 []))).charge 3).map (·.marks) = some 1#8 := by decide
theorem test_release : answer .kiln (.release .kiln 1#8 [1#8]) (kiln .complete 7 []) = some (.ok, [0#8, 12#8, 5#8]) := by decide
/-- The worked check of chapter 3: 12.2 % against 13.5 % accepted and +0.6 %. -/
theorem test_check : answer .kiln (.check .kiln 1#8 [1#8, 5#8, 0#8, 122#8]) (beforeReading .running (.good 135) 6) =
    some (.ok, [0xFF#8, 0xF9#8, 0#8, 122#8]) := by decide +kernel
/-- The worked check of chapter 3: the offset clamps to +5.0 %. -/
theorem test_check_limited : answer .kiln (.check .kiln 1#8 [1#8, 5#8, 0#8, 130#8]) (beforeReading .running (.good 100) 30) =
    some (.limited, [0#8, 50#8, 0#8, 120#8]) := by decide +kernel
theorem test_probe_enable : answer .kiln (.probeEnable .kiln 1#8 [1#8, 0x0F#8, 0xFF#8]) library = some (.ok, [0x0F#8, 0xFF#8]) := by
  decide +kernel
theorem test_chamber_set : answer .kiln (.chamberSet .kiln 1#8 [1#8, 0x0E#8, 0x10#8, 4#8, 0#8, 50#8, 0#8, 20#8, 2#8, 0#8, 31#8, 1#8])
    library = some (.ok, [1#8]) := by decide
theorem test_chamber_set_interval : answer .kiln
    (.chamberSet .kiln 1#8 [1#8, 0x0E#8, 0x11#8, 4#8, 0#8, 50#8, 0#8, 20#8, 2#8, 0#8, 31#8, 1#8]) library = some (.outOfRange, [0#8]) := by
  decide
theorem test_draw : answer .line (.draw .line 1#8 [0#8, 12#8, 0#8]) (stored .released none) =
    some (.ok, [0#8, 12#8, 3#8, 0x07#8, 0x08#8]) := by decide
theorem test_end_draw : ((after (.endDraw .line 1#8 []) (framing .line (line false false 5 0))).draw) = some ⟨true, 3, false⟩ := by decide
/-- END-DRAW answers the charge ID and the FIFO count in one byte. -/
theorem test_end_draw_answer : answer .line (.endDraw .line 1#8 []) (line false false 5 3) = some (.ok, [0#8, 12#8, 3#8]) := by decide
theorem test_close_pack : answer .yard (.closePack .yard 1#8 []) labels = some (.ok, [0#8, 73#8, 0#8, 199#8]) := by decide
/-- The worked case of chapter 1: IDs 65535 and 1 are present, so the candidates from 65535 end at 2. -/
theorem test_new_charge : answer .yard (.newCharge .yard 1#8 [2#8, 5#8, 0x07#8, 0x08#8, 0#8, 0#8])
    { library with
      charges := ((stored .assigned none).charges.set 0 (some { wood .planed none (some 0) with id := 65535 })).set 1
        (some { wood .planed none (some 0) with id := 1 })
      chargeCounter := 65535 } = some (.ok, [0#8, 2#8, 2#8]) := by decide
theorem test_delete_charge : answer .yard (.deleteCharge .yard 1#8 [0#8, 12#8]) (stored .planed (some 0)) = some (.ok, [3#8]) := by decide
theorem test_write_staging : (after (.writeStaging .yard 1#8 [8#8, 0#8, 70#8, 0#8, 15#8, 0x01#8, 0x90#8, 0#8, 0xF0#8])
    (framing .yard (cursorAt .yard .staging 0 true true library))).staging.header = ⟨8, 70, 15, 400, 240⟩ := by decide
theorem test_write_staging_wraps : ((after (.writeStaging .yard 1#8 (List.replicate 12 1#8))
    (framing .yard (cursorAt .yard .staging 12 true true library))).port .yard).cursor.index = 0 := by decide
theorem test_write_species : (after (.writeSpecies .yard 1#8 oakBytes)
    (framing .yard (cursorAt .yard .species 4 false true library))).species[4] = some oak := by decide +kernel
/-- The second WRITE of the worked species record: breakpoint 1, CODE_ORDER. -/
theorem test_write_species_order : answer .yard (.writeSpecies .yard 1#8 ([0x02#8, 0x8A#8, 0x01#8, 0x2C#8, 0x02#8, 0x80#8] ++ oakBytes.drop 6))
    (cursorAt .yard .species 2 false true library) = some (.invalid, [1#8, 1#8]) := by decide +kernel
/-- The worked schedule's first commit: failing index 4, CHANGE_AT_ORDER. -/
theorem test_commit_first : answer .yard (.commitSchedule .yard 1#8 [5#8]) (staged 300 480) = some (.invalid, [4#8, 15#8]) := by decide +kernel
/-- The worked schedule's successful commit: n and the step count. -/
theorem test_commit : answer .yard (.commitSchedule .yard 1#8 [5#8]) (staged 220 40) = some (.ok, [5#8, 8#8]) := by decide +kernel
theorem test_clear_schedule : answer .yard (.clearSchedule .yard 1#8 [5#8]) (kiln .running 2 []) = some (.inUse, []) := by decide
theorem test_pack_plan : answer .yard (.packPlan .yard 1#8 [25#8, 0#8, 150#8, 0#8, 200#8, 0#8, 180#8, 0x01#8, 0x90#8, 1#8, 0#8, 9#8])
    library = some (.outOfRange, [6#8]) := by decide
/-- The worked queue of chapter 8: label 72 is issued, its record beginning with the pack number. -/
theorem test_next_label : (answer .yard (.nextLabel .yard 1#8 []) labels).map (fun a => (a.1, a.2.take 4)) =
    some (.ok, [0#8, 72#8, 0#8, 12#8]) := by decide +kernel
/-- The worked queue of chapter 8: ACK-LABEL 71 before 70. -/
theorem test_ack_label_order : answer .yard (.ackLabel .yard 1#8 [0#8, 71#8]) labels = some (.notOldest, []) := by decide +kernel
theorem test_ack_label : answer .yard (.ackLabel .yard 1#8 [0#8, 70#8]) labels = some (.ok, [0#8, 70#8, 2#8]) := by decide +kernel
/-- The worked queue of chapter 8: REPRINT 72 before it is issued. -/
theorem test_reprint : answer .yard (.reprint .yard 1#8 [0#8, 72#8]) labels = some (.notIssued, []) := by decide +kernel
theorem test_set_time : answer .yard (.setTime .yard 1#8 [0x00#8, 0x1E#8, 0x84#8, 0x80#8]) State.reset =
    some (.ok, [0#8, 0#8, 0#8, 0#8, 0#8, 0x00#8, 0x1E#8, 0x84#8, 0x80#8, 0#8]) := by decide
theorem test_set_cursor : answer .line (.setCursor .line 1#8 [2#8, 67#8, 1#8]) State.reset = some (.ok, [2#8, 67#8, 1#8]) := by decide
theorem test_set_cursor_beyond : answer .line (.setCursor .line 1#8 [2#8, 68#8, 1#8]) State.reset = some (.outOfRange, []) := by decide
theorem test_read : answer .kiln (.read .kiln 1#8 []) (cursorAt .kiln .schedules 4 true false library) =
    some (.ok, [7#8, 5#8, 5#8, 1#8, 8#8, 0#8, 70#8, 0#8, 15#8, 0x01#8, 0x90#8, 0#8, 0xF0#8]) := by decide +kernel
theorem test_read_notices : answer .yard (.readNotices .yard 1#8 []) State.reset = some (.ok, [0x08#8, 0#8, 0x0F#8, 0xFF#8]) := by decide
theorem test_set_notice_mask : answer .line (.setNoticeMask .line 1#8 [0x10#8, 0#8]) State.reset = some (.outOfRange, []) := by decide
theorem test_status : (answer .line (.status .line 1#8 []) State.reset).map (·.1) = some .ok := by decide
theorem test_mark : answer .line (.mark .line 1#8 [2#8, 0#8, 7#8]) State.reset = some (.ok, [0#8, 0#8, 0#8, 0#8, 0#8, 0#8, 1#8]) := by decide
theorem test_unknown_request : answer .line (.unknownRequest .line 0x1F#8 5#8) State.reset = some (.unknown, []) := by decide
theorem test_request_frame_crc_fail : ((after (.requestFrameCrcFail .line) (framing .line State.reset)).port .line).rx = .hunt := by decide
theorem test_port_frame_bad_length : ((after (.portFrameBadLength .line 65#8) (framing .line State.reset)).port .line).rx = .hunt := by
  decide
theorem test_port_frame_window_expiry :
    ((after (.portFrameWindowExpiry .line) (State.reset.setRx .line (.frame 16))).port .line).rx = .hunt := by decide
theorem test_response_sent :
    ((after (.responseSent .line) (State.reset.setRx .line (.respond ⟨1#8, 2#8, .ok, []⟩))).port .line).rx = .hunt := by decide
theorem test_port_start_byte : ((after (.portStartByte .yard) State.reset).port .yard).rx = .frame 0 := by decide
/-- The mid-curve code of the worked conversions: 845 at 61.2 °C with +0.6 % gives 13.5 %. -/
theorem test_probe_frame : ((after (.probeFrame 1#8 5#8 0x03#8 0x4D#8 0xAA#8)
    (probing (beforeReading .running (.good 131) 6))).bank 1).samples[5].trust = .good 135 := by decide +kernel
/-- Reading 4 of the worked confirmation: code 1450 is the fault OPEN, and the accepted MC stays. -/
theorem test_probe_frame_open : ((after (.probeFrame 1#8 5#8 0x05#8 0xAA#8 0x4B#8)
    (probing (beforeReading .running (.good 138) 6))).bank 1).samples[5].trust = .fault .opened (some 138) := by decide +kernel
theorem test_probe_frame_window_expiry : (after .probeFrameWindowExpiry { State.reset with probeRx := .frame 4 }).probeRx = .hunt := by decide
theorem test_probe_start_byte : (after .probeStartByte State.reset).probeRx = .frame 0 := by decide
/-- Frame 201 of the worked grading: 7.8 %, 366 cm. -/
theorem test_board_frame : (after (.boardFrame 201#8 0#8 78#8 1#8 110#8 122#8) (boarding (line false false 1200 26))).boardOut =
    some ⟨201#8, .pack, .none⟩ := by decide +kernel
/-- Frame 202 of the worked grading: 9.1 %, 420 cm. -/
theorem test_board_frame_wet : ((after (.boardFrame 202#8 0#8 91#8 1#8 164#8 54#8)
    (boarding { line false false 1200 26 with lastSeq := some 201#8 })).charge 3).map (fun ch => (ch.wet, ch.remaining)) =
    some (1, some 1199) := by decide +kernel
theorem test_board_frame_window_expiry : (after .boardFrameWindowExpiry { State.reset with boardRx := .frame 4 }).boardRx = .hunt := by decide
theorem test_board_start_byte : (after .boardStartByte State.reset).boardRx = .frame 0 := by decide
/-- A move that adds the two-hundredth board closes the pack: the newest of the label queue. -/
theorem test_tally_move : (after .tallyMove labels).labelQueue = [4, 5, 6, 7] := by decide +kernel
theorem test_draw_end : ((after .drawEnd (line true false 3 0)).charge 3).map (fun ch => (ch.state, ch.marks)) =
    some (.planed, 0x80#8) := by decide +kernel
theorem test_line_silence_expiry : ((after .lineSilenceExpiry { labels with silence := some ⟨0, 0, 300, false⟩ }).port .line).pending =
    0x100#12 := by decide +kernel
/-- Instant 1 of the worked run, but with fewer valid probes than the minimum: 10 tenths of ramp. -/
theorem test_evaluation_instant : ((after (.evaluationInstant 1) (kiln .running 2 [])).chamber 1).drySetpoint = 395 := by decide +kernel
theorem test_evaluation_instant_resume : ((after (.evaluationInstant 1) (kiln .held 4 [.resume])).chamber 1).dwell = 3600 := by
  decide +kernel
theorem test_door_input_change : ((after (.doorInputChange 2 .opened) State.reset).monitor 2).debounce = some ⟨0, 64⟩ := by decide
/-- The worked door hold: 96,064 sixty-fourths are 1501 s, past the limit of 20 min. -/
theorem test_door_debounce_expiry : ((after (.doorDebounceExpiry 1)
    ((kiln .doorHold 4 []).setMonitor 1 ⟨.closed, .opened, some ⟨64, 64⟩, some ⟨96064, true⟩⟩)).charge 3).map
      (fun ch => (ch.doorSeconds, ch.marks)) = some (1501, 0x20#8) := by decide +kernel
/-- The worked door hold: open time 76,801 raises DOOR. -/
theorem test_door_limit_passed : ((after (.doorLimitPassed 1)
    ((kiln .doorHold 4 []).setMonitor 1 ⟨.opened, .opened, none, some ⟨76801, false⟩⟩)).port .kiln).pending = 0x004#12 := by decide +kernel
theorem test_mill_time_wrap : (after .millTimeWrap { State.reset with clock := ⟨4294967295, 63, false⟩ }).clock = ⟨0, 0, true⟩ := by decide
theorem test_vbat_range_change : (after (.vbatRangeChange false) (dark true State.reset)).power.holdMarker = false := by decide
theorem test_main_power_loss : (after .mainPowerLoss (framing .kiln State.reset)).power.main = false := by decide
theorem test_power_return : ((after (.powerReturn .closed .closed .closed .closed) (dark true (kiln .running 4 []))).chamber 1).state =
    .held := by decide +kernel
theorem test_cleared_start : (after (.clearedStart .opened .closed .closed .closed) (dark false (kiln .running 4 []))).doors[0].door =
    .opened := by decide +kernel
theorem test_port_reset : ((after .portReset (kiln .running 4 [.hold])).chamber 1).queue = [] := by decide +kernel
theorem test_clear_reset : (after .clearReset (kiln .running 4 [.hold])).charge 3 = none := by decide +kernel
/-- The worked close of chapter 8: class A, 3,047 dm³, 9.9 %, 32 minutes. -/
theorem test_label : (fun l : Label => (l.grade, l.volume, l.meanMc, l.doorMinutes)) (labelOf .target ⟨0, 0, false⟩
    { bundle .opened (some 3) none 212 with boards := 200, measured := 198, mcSum := 19610, totalLength := 81240 }
    ⟨3, { wood .onLine none (some 9) with targetMc := 100, doorSeconds := 1890 }, finals, 4100000, 5210400, 9⟩) =
    (.a, 3047, some 99, 32) := by decide +kernel
/-- The worked statistics of chapter 3. -/
theorem test_statistics : statValues [161, 156, 149, 142, 133, 128, 121, 110] = ⟨152, 138, 110, 161, 51⟩ := by decide +kernel
/-- The cold morning of the worked conversions: the half is rounded away from zero. -/
theorem test_cold_correction : correctedMc 25 149 300 = 309 := by decide +kernel

/-! ### The statements' hypotheses are met: one theorem per statement, its clauses in order, each at a boundary of its range -/

theorem completes_iff {i : Instr} {s : State} (h : completes i s = true) : ∃ t, exec i s = .next t := by
  unfold completes at h
  split at h
  · exact ⟨_, ‹_›⟩
  · cases h
  · cases h

/-- A step completes. -/
def moves (s : State) : Bool :=
  match step s with
  | .next _ => true
  | .fault _ | .refused _ => false

theorem moves_iff {s : State} (h : moves s = true) : ∃ t, step s = .next t := by
  unfold moves at h
  split at h
  · exact ⟨_, ‹_›⟩
  · cases h
  · cases h

theorem found_only {s : State} {n : Nat} {k : Fin 8} {ch : Charge} {P : Charge → Prop} (h : s.chargeById n = some (k, ch)) (hp : P ch) :
    ∀ j x, s.chargeById n = some (j, x) → P x := by
  intro j x hx
  rw [h] at hx
  cases hx
  exact hp

theorem witness_StepTakesFront : { State.reset with pending := [.tallyMove] }.pending = .tallyMove :: [] := rfl

/-- Chamber 1 in DOOR_HOLD with its limit passed, its debounce one sixty-fourth from its period and its countdown at 0, every window
one sixty-fourth from its end, the silence countdown and the sixty-fourths of mill time at their last. -/
def nearlyDue : State :=
  { (kiln .doorHold 2 []).setMonitor 1 ⟨.closed, .opened, some ⟨63, 64⟩, some ⟨76800, false⟩⟩ with
    ports := ⟨{ State.reset.ports.kiln with rx := .frame 15 }, State.reset.ports.line, State.reset.ports.yard⟩
    probeRx := .frame 3
    boardRx := .frame 3
    silence := some ⟨1, 63, 300, true⟩
    clock := ⟨4294967294, 63, false⟩ }

theorem witness_IdleStep :
    ((line true false 3 0).pending = [] ∧ (line true false 3 0).power.main = true ∧
      ∃ d, (line true false 3 0).draw = some d ∧ d.ending = true ∧ ∀ b ∈ (line true false 3 0).fifo, b.slot ≠ d.slot) ∧
    ((line false false 5 1).pending = [] ∧ (line false false 5 1).power.main = true ∧
      (∀ d ∈ (line false false 5 1).draw, ¬d.ending = true) ∧ (line false false 5 1).fifo ≠ [] ∧ (line false false 5 1).pack 0 = none) ∧
    ((dark true nearlyDue).pending = [] ∧ (dark true nearlyDue).power.main = false) ∧
    (nearlyDue.pending = [] ∧ nearlyDue.power.main = true ∧ nearlyDue.draw = none ∧ nearlyDue.fifo = [] ∧
      ¬(4294967295 ≤ nearlyDue.clock.seconds ∧ 63 ≤ nearlyDue.clock.sixtyFourths)) ∧
    (let s := { State.reset with clock := ⟨4294967295, 63, false⟩ }
     s.pending = [] ∧ 4294967295 ≤ s.clock.seconds ∧ 63 ≤ s.clock.sixtyFourths) := by
  refine ⟨⟨by decide, by decide, ⟨true, 3, false⟩, by decide, by decide, by decide⟩, ?_⟩
  decide +kernel

/-- At the next sixty-fourth seven things come due, in the order of log entry 2. -/
theorem test_tick : (match step nearlyDue with
    | .next t => t.pending
    | .fault _ | .refused _ => []) =
      [.portFrameWindowExpiry .kiln, .probeFrameWindowExpiry, .boardFrameWindowExpiry, .doorLimitPassed 1, .doorDebounceExpiry 1,
       .evaluationInstant 1, .lineSilenceExpiry] := by decide +kernel

theorem witness_FrameRoundTrip :
    ((Instr.status .line 7#8 (List.replicate 62 9#8)).wf = true ∧
      encodePortFrame (.status .line 7#8 (List.replicate 62 9#8)) = some (.line, requestFrame 0x1D#8 7#8 (List.replicate 62 9#8))) ∧
    ((Instr.endDraw .line 7#8 []).wf = true ∧ encodePortFrame (.endDraw .line 7#8 []) = some (.line, requestFrame 0x0D#8 7#8 [])) ∧
    (lengthByteGood 2#8 = true ∧ [0x1A#8, 0#8].length = (2#8 : Byte).toNat ∧ crc16 [2#8, 0x1A#8, 0#8] ≠ 0x4E#8 ++ 0x45#8) := by
  refine ⟨⟨by decide, rfl⟩, ⟨by decide, rfl⟩, by decide +kernel⟩

theorem witness_RequestDecoded :
    ((Instr.load .kiln 1#8 []).wf = true ∧ (Instr.load .kiln 1#8 []).framed = some (.kiln, 1#8, 1#8, []) ∧
      requestOfCode 1#8 = some .load ∧ State.reset.takesFrame .kiln = false) ∧
    ((Instr.load .line 1#8 []).framed = some (.line, 1#8, 1#8, []) ∧ (framing .line State.reset).takesFrame .line = true ∧
      Request.load.permitted .line = false) ∧
    ((Instr.writeSpecies .yard 1#8 []).framed = some (.yard, 0x11#8, 1#8, []) ∧ requestOfCode 0x11#8 = some .write ∧
      (framing .yard State.reset).takesFrame .yard = true ∧ ((framing .yard State.reset).port .yard).cursor.table = .chambers) ∧
    ((framing .kiln State.reset).takesFrame .kiln = true ∧ Request.load.permitted .kiln = true ∧
      ([0#8, 0#8] : List Byte).length < bytesNeeded ((framing .kiln State.reset).port .kiln).cursor .load) ∧
    (let s := framing .yard (cursorAt .yard .species 0 false true State.reset)
     s.takesFrame .yard = true ∧ Request.write.permitted .yard = true ∧ (s.port .yard).cursor.table = .species ∧
      (oakBytes.take 24).length < bytesNeeded (s.port .yard).cursor .write) := by
  refine ⟨⟨by decide, rfl, by decide, by decide⟩, ⟨rfl, by decide⟩, ⟨rfl, by decide⟩, by decide, by decide +kernel⟩

theorem witness_OtherPortsUndisturbed : (Instr.mark .line 1#8 [0#8, 0#8, 0#8]).framed = some (.line, 0x1E#8, 1#8, [0#8, 0#8, 0#8]) ∧
    ∃ t, exec (.mark .line 1#8 [0#8, 0#8, 0#8]) (framing .line State.reset) = .next t :=
  ⟨rfl, completes_iff (by decide +kernel)⟩

theorem witness_PortFrameEvents :
    State.reset.power.main = true ∧ (State.reset.port .line).rx = .hunt ∧ ((framing .line State.reset).port .line).rx ≠ .hunt ∧
    (((State.reset.setRx .line (.frame 15)).port .line).rx = .frame 15 ∧ 15 < 16 ∧ ((1#8 : Byte).toNat < 2 ∨ 64 < (1#8 : Byte).toNat) ∧
      ((65#8 : Byte).toNat < 2 ∨ 64 < (65#8 : Byte).toNat) ∧ 0x1E < (0x1F#8 : Byte).toNat) ∧
    ((State.reset.setRx .line (.frame 16)).port .line).rx = .frame 16 ∧
    ((State.reset.setRx .line (.respond ⟨1#8, 2#8, .ok, []⟩)).port .line).rx = .respond ⟨1#8, 2#8, .ok, []⟩ := by decide +kernel

theorem witness_LinkFrameEvents :
    State.reset.power.main = true ∧ State.reset.probeRx = .hunt ∧ (probing State.reset).probeRx ≠ .hunt ∧
    ({ State.reset with probeRx := .frame 4 }.probeRx = .frame 4 ∧ { State.reset with probeRx := .frame 3 }.probeRx = .frame 3 ∧ 3 < 4) ∧
    State.reset.boardRx = .hunt ∧ (boarding State.reset).boardRx ≠ .hunt ∧
    { State.reset with boardRx := .frame 4 }.boardRx = .frame 4 ∧ { State.reset with boardRx := .frame 3 }.boardRx = .frame 3 := by
  decide +kernel

theorem witness_CursorRequests :
    (framing .line State.reset).takesFrame .line = true ∧
    (tableOfCode (2#8 : Byte).toNat = some .probes ∧ boolOfCode (1#8 : Byte).toNat = some true ∧ (67#8 : Byte).toNat < Table.probes.indexCount) ∧
    (tableOfCode (14#8 : Byte).toNat = none ∧ boolOfCode (2#8 : Byte).toNat = none ∧ Table.probes.indexCount ≤ (68#8 : Byte).toNat) ∧
    (let s := framing .line (cursorAt .line (.ring 0) 0 true true State.reset)
     s.takesFrame .line = true ∧ s.tableCount (s.port .line).cursor.table = 0) ∧
    (let s := framing .line (cursorAt .line .schedules 15 true false State.reset)
     s.takesFrame .line = true ∧ s.tableCount (s.port .line).cursor.table ≠ 0 ∧
      0 = (let k := (s.port .line).cursor.index + if (s.port .line).cursor.advance = true ∧ (s.port .line).cursor.readMark = false then 1 else 0
        if k < s.tableCount (s.port .line).cursor.table then k else 0)) := by decide +kernel

theorem witness_NoticeAndStatusRequests :
    (framing .yard State.reset).takesFrame .yard = true ∧ nat16 0x0F#8 0xFF#8 < 4096 ∧ 4096 ≤ nat16 0x10#8 0x00#8 ∧
    (let put : Port → PortState := fun p =>
        if p ∈ [Port.line, .yard] then { State.reset.port p with pending := (State.reset.port p).pending ||| 0b001000000000#12 }
        else State.reset.port p
     put .kiln = State.reset.port .kiln ∧ (put .line).pending = 0b001000000000#12) := by decide +kernel

/-- Every charge slot holds a charge, and charge 12 stands in slot 3 with one wet board. -/
def fullTable : State :=
  { library with charges := Vector.ofFn fun k : Fin 8 => some { wood .onLine none (some 5) with id := k.val + 9, wet := 1 } }

theorem witness_NewChargeAnswers :
    (framing .yard (stored .assigned none)).takesFrame .yard = true ∧
    (8 ≤ (8#8 : Byte).toNat ∧ 16 ≤ (16#8 : Byte).toNat ∧ nat16 0#8 0#8 < 1 ∧ 20000 < nat16 0x4E#8 0x21#8) ∧
    (1 ≤ nat16 0#8 1#8 ∧ nat16 0x4E#8 0x20#8 ≤ 20000) ∧
    ((framing .yard fullTable).takesFrame .yard = true ∧ ∀ k, (framing .yard fullTable).charge k ≠ none) ∧
    (let s := framing .yard (fullTable.setCharge 7 none)
     s.takesFrame .yard = true ∧ s.charge 7 = none ∧ (∀ j, j < 7 → s.charge j ≠ none) ∧ s.schedules[(15 : Fin 16)] = none ∧
      s.schedules[(5 : Fin 16)] ≠ none ∧ s.species[(7 : Fin 8)] = none ∧ s.schedules[(5 : Fin 16)] = some hardwood ∧
      s.species[(2 : Fin 8)] = some oak ∧
      (nat16 0#8 99#8 ≠ 0 ∧ s.chargeById (nat16 0#8 99#8) = none) ∧
      (s.chargeById (nat16 0#8 12#8) = some (3, { wood .onLine none (some 5) with id := 12, wet := 1 })) ∧ nat16 0#8 0#8 = 0) := by
  decide +kernel

theorem witness_NumbersAssigned :
    ((stored .assigned none).IdsDistinct ∧ (stored .assigned none).chargeById 12 = some (3, wood .assigned none none)) ∧
    (let s := { stored .assigned none with chargeCounter := 65535 }
     1 ≤ s.chargeCounter ∧ s.chargeCounter ≤ 65535 ∧ s.charge 0 = none) ∧
    (let s := { labels with packCounter := 65535 }
     1 ≤ s.packCounter ∧ s.packCounter ≤ 65535 ∧ s.pack 0 = none) ∧
    (labels.PackNumbersDistinct ∧ labels.PacksHeld ∧ labels.pack 7 = some (bundle .opened (some 3) none 73)) := by decide +kernel

theorem witness_DeleteChargeAnswers :
    (framing .yard (stored .assigned none)).takesFrame .yard = true ∧ nat16 0#8 0#8 = 0 ∧
    (∀ k, ∀ ch ∈ (framing .yard (stored .assigned none)).charge k, ch.id ≠ nat16 0#8 13#8) ∧
    (framing .yard (stored .assigned none)).chargeById (nat16 0#8 12#8) = some (3, wood .assigned none none) ∧
    (framing .yard (stored .planed (some 0))).chargeById (nat16 0#8 12#8) = some (3, wood .planed none (some 0)) ∧
    (framing .yard (stored .released none)).chargeById (nat16 0#8 12#8) = some (3, wood .released none none) := by decide +kernel

theorem witness_StagingWrites :
    (let s := framing .yard (cursorAt .yard .staging 0 true true library)
     s.takesFrame .yard = true ∧ (s.port .yard).cursor.table = .staging ∧ (s.port .yard).cursor.index = 0) ∧
    (let s := framing .yard (cursorAt .yard .staging 12 true true library)
     s.takesFrame .yard = true ∧ (s.port .yard).cursor.table = .staging ∧ (s.port .yard).cursor.index = (11 : Fin 12).val + 1) ∧
    [8#8, 0#8, 70#8, 0#8, 15#8, 1#8, 0x90#8, 0#8, 0xF0#8] = 8#8 :: 0#8 :: 70#8 :: 0#8 :: 15#8 :: 1#8 :: 0x90#8 :: 0#8 :: 0xF0#8 :: [] := by
  decide +kernel

theorem witness_SpeciesWrites :
    (∀ b ∈ oak.points.toList, b.code < 65536 ∧ b.mc < 65536) ∧ oak.coeff < 256 ∧
    oakBytes = oak.points.toList.flatMap (fun b => u16 b.code ++ u16 b.mc) ++ u8 oak.coeff ++ [] ∧
    (let s := framing .yard (cursorAt .yard .species 7 true true library)
     s.takesFrame .yard = true ∧ (s.port .yard).cursor.table = .species ∧ (s.port .yard).cursor.index = (7 : Fin 8).val ∧
      { oak with points := oak.points.set 5 ⟨1401, 70⟩ }.failure = some (5, 0) ∧ oak.failure = none ∧
      ∀ j, ∀ ch ∈ s.charge j, ch.state ∈ [.assigned, .loaded, .inKiln] → ch.species ≠ 7) ∧
    (let s := framing .yard (cursorAt .yard .species 2 true true (stored .assigned none))
     s.takesFrame .yard = true ∧ (s.port .yard).cursor.index = (2 : Fin 8).val ∧
      ∃ j, ∃ ch ∈ s.charge j, ch.state ∈ [.assigned, .loaded, .inKiln] ∧ ch.species = 2) := by
  refine ⟨by decide +kernel, by decide, by decide +kernel, by decide +kernel, by decide +kernel, by decide +kernel, 3, wood .assigned none none, ?_⟩
  decide +kernel

theorem witness_ValidationExact : (staged 220 40).staging.failure = none ∧ (staged 300 480).staging.failure = some ((3 : Fin 12).val + 1, 15) ∧
    { (staged 220 40).staging with header := ⟨1, 70, 15, 400, 240⟩ }.failure = some (0, 0) ∧
    oak.failure = none ∧ oak.coeff ≤ 255 ∧
    { oak with points := oak.points.set 5 ⟨1401, 70⟩ }.failure = some ((5 : Fin 6).val, 0) := by decide +kernel

theorem witness_ScheduleRequests :
    (framing .yard (staged 300 480)).takesFrame .yard = true ∧ 16 ≤ (16#8 : Byte).toNat ∧
    ((15#8 : Byte).toNat < 16 ∧ (framing .yard (staged 300 480)).staging.failure = some (4, 15)) ∧
    (let s := framing .yard { staged 220 40 with charges := (stored .assigned none).charges }
     s.takesFrame .yard = true ∧ s.staging.failure = none ∧ (5#8 : Byte).toNat = (5 : Fin 16).val ∧
      (∃ j, ∃ ch ∈ s.charge j, ch.state ∈ [.assigned, .loaded, .inKiln] ∧ ch.schedule = 5) ∧
      (15#8 : Byte).toNat = (15 : Fin 16).val ∧
      ∀ j, ∀ ch ∈ s.charge j, ch.state ∈ [.assigned, .loaded, .inKiln] → ch.schedule ≠ 15) ∧
    (hardwoodSteps.length = (staged 220 40).staging.header.stepCount.toNat ∧
      ∀ t : Fin 12, ∀ st ∈ hardwoodSteps[t.val]?,
        [Phase.dry, .equalize, .condition][(staged 220 40).staging.steps[t].phase.toNat]? = some st.phase ∧
        [Basis.wettestHalf, .mean, .driest][(staged 220 40).staging.steps[t].basis.toNat]? = some st.basis ∧
        st.changeAt = (staged 220 40).staging.steps[t].changeAt.toNat ∧ st.ramp = (staged 220 40).staging.steps[t].ramp.toNat) := by
  refine ⟨by decide +kernel, by decide, by decide +kernel, ⟨by decide +kernel, by decide +kernel, by decide, ?_, by decide, by decide +kernel⟩,
    by decide +kernel⟩
  exact ⟨3, wood .assigned none none, by decide +kernel⟩

theorem witness_ReadingsTaken :
    let s := { beforeReading .running (.good 131) 6 with probeRx := .frame 3 }
    (s.power.main = true ∧ s.probeRx = .frame 3) ∧
    (1#8 + 5#8 + 1#8 + 0x2B#8 + 0#8 ≠ 0#8 ∧ 4#8 + 17#8 + 1#8 + 0x2B#8 + 0xBF#8 = 0#8 ∧ 4 ≤ (4#8 : Byte).toNat ∧ 17 ≤ (17#8 : Byte).toNat) ∧
    ((s.chamber 0).state = .empty ∧ (s.chamber 1).state ≠ .empty ∧ (s.bank 1).samples[(5 : Fin 16)].trust ≠ .off) ∧
    (299 = (0x01#8 : Byte).toNat % 16 * 256 + (0x2B#8 : Byte).toNat ∧ 299 < 300 ∧ 1#8 + 5#8 + 1#8 + 0x2B#8 + 0xCE#8 = 0#8) ∧
    (1401 = (0xF5#8 : Byte).toNat % 16 * 256 + (0x79#8 : Byte).toNat ∧ 1400 < 1401 ∧ 1#8 + 5#8 + 0xF5#8 + 0x79#8 + 0x8C#8 = 0#8) ∧
    (300 = (0x01#8 : Byte).toNat % 16 * 256 + (0x2C#8 : Byte).toNat ∧ 1400 = (0x05#8 : Byte).toNat % 16 * 256 + (0x78#8 : Byte).toNat ∧
      (s.chamber 1).chargeSlot = some 3 ∧ s.charge 3 = some (wood .inKiln (some 1) none) ∧ s.species[(2 : Fin 8)] = some oak) ∧
    (845 = (0x03#8 : Byte).toNat % 16 * 256 + (0x4D#8 : Byte).toNat ∧ oak.rawMc 845 = (172, false, false) ∧
      (135 : Int) = max 0 (min 600 ((correctedMc 25 ((s.bank 1).dryBulb.temperature.getD 200) 172 : Int) +
        (s.bank 1).samples[(5 : Fin 16)].offset))) ∧
    ((16#8 : Byte).toNat = 16 ∧ 1500 = (0x05#8 : Byte).toNat % 16 * 256 + (0xDC#8 : Byte).toNat ∧
      1501 = (0x05#8 : Byte).toNat % 16 * 256 + (0xDD#8 : Byte).toNat ∧ 1#8 + 16#8 + 5#8 + 0xDC#8 + 0x0E#8 = 0#8) := by
  intro s
  refine ⟨by decide, by decide, by decide +kernel, by decide, by decide, ?_, by decide +kernel, by decide⟩
  exact ⟨by decide, by decide, by decide, by decide +kernel, by decide +kernel⟩

theorem witness_CurveStage :
    oak.Valid ∧ 599 < oak.points[0].code ∧ oak.points[5].code < 1151 ∧ (oak.points[0].code ≤ 600 ∧ 1150 ≤ oak.points[5].code) ∧
    (oak.points[(1 : Fin 5).val].code ≤ 800 ∧ 800 ≤ oak.points[(1 : Fin 5).val + 1].code) ∧
    (oak.points[(2 : Fin 5).val].code ≤ 800 ∧ 800 ≤ oak.points[(2 : Fin 5).val + 1].code ∧ 40 = oak.points[(2 : Fin 5).val].mc - oak.points[(2 : Fin 5).val + 1].mc ∧
      100 = oak.points[(2 : Fin 5).val + 1].code - oak.points[(2 : Fin 5).val].code ∧ 0 = 800 - oak.points[(2 : Fin 5).val].code ∧
      0 = (40 * 0 + 100 / 2) / 100) ∧
    800 = oak.points[(2 : Fin 6)].code := by decide +kernel

/-- The hypotheses of `Obligations.TemperatureStage` on c, T, m and q. -/
abbrev Quotient (c temperature : Nat) (m q : Int) : Prop := m = (c : Int) * ((temperature : Int) - 200) ∧
  (0 ≤ m → 10 * q - 5 ≤ m ∧ m < 10 * q + 5) ∧ (m < 0 → 10 * q - 5 < m ∧ m ≤ 10 * q + 5)

theorem witness_TemperatureStage : Quotient 25 149 (-1275) (-128) ∧ Quotient 5 451 1255 126 ∧ Quotient 25 200 0 0 ∧ Quotient 0 612 0 0 ∧
    (Quotient 255 1100 229500 22950 ∧ (2048 : Int) ≤ 22950) ∧ (Quotient 160 72 (-20480) (-2048) ∧ (-2048 : Int) ≤ -2048) ∧
    (Quotient 80 456 20480 2048 ∧ (2048 : Int) ≤ 2048) := by
  refine ⟨by decide, by decide, by decide, by decide, by decide, by decide, by decide⟩

theorem witness_StatisticsRequested :
    let b := (beforeReading .running (.good 131) 6).bank 1
    let st := ((beforeReading .running (.good 131) 6).chamber 1).settings
    let valid := (List.finRange 16).filter (fun i => match (b.computed st).samples[i].trust with
      | .good _ => true
      | .off | .new | .suspect .. | .fault .. | .stale _ => false)
    [131].map some = valid.map (fun i => (b.computed st).samples[i].trust.accepted) := by decide +kernel

theorem witness_StatisticsComputed :
    [110, 161, 133] ≠ [] ∧ [161, 133, 110].Perm [110, 161, 133] ∧ [161, 133, 110].Pairwise (fun a b => b ≤ a) ∧ 3 = [110, 161, 133].length ∧
    2 = (3 + 1) / 2 ∧ 3 ≤ 3 ∧ [(7 : Nat)] = [7] ∧ [(7 : Nat)] ≠ [] := by decide +kernel

theorem witness_ProbeRequests :
    (framing .kiln (beforeReading .running (.good 135) 6)).takesFrame .kiln = true ∧ 4 ≤ (4#8 : Byte).toNat ∧
    (3#8 : Byte).toNat = (3 : ChamberNo).val ∧ 16 ≤ (16#8 : Byte).toNat ∧ 600 < nat16 0x02#8 0x59#8 ∧
    ((1#8 : Byte).toNat = (1 : ChamberNo).val ∧ (5#8 : Byte).toNat = (5 : Fin 16).val ∧ nat16 0x02#8 0x58#8 ≤ 600) ∧
    (((beforeReading .cooling (.good 135) 6).chamber 1).state ∉ [ChamberState.running, .held, .doorHold] ∧
      (∀ a, ((beforeReading .running (.stale 135) 6).bank 1).samples[(5 : Fin 16)].trust ≠ .good a)) ∧
    (let s := beforeReading .running (.good 135) 6
     (s.chamber 1).state ∈ [ChamberState.running, .held, .doorHold] ∧ (s.bank 1).samples[(5 : Fin 16)].trust = .good 135 ∧
      (-7 : Int) = (s.bank 1).samples[(5 : Fin 16)].offset + ((nat16 0#8 122#8 : Int) - 135) ∧ (-7 : Int) = max (-50) (min 50 (-7)) ∧
      (471 : Int) = (s.bank 1).samples[(5 : Fin 16)].offset + ((nat16 0x02#8 0x58#8 : Int) - 135) ∧ (50 : Int) = max (-50) (min 50 471)) := by
  refine ⟨by decide, by decide, by decide, by decide, by decide, by decide, ⟨by decide, ?_⟩, by decide +kernel⟩
  intro a
  simp [beforeReading, State.setBank, State.bank, ProbeBank.setSample]

theorem witness_LoadAnswers :
    (framing .kiln (kiln .loaded 0 [])).takesFrame .kiln = true ∧ 4 ≤ (4#8 : Byte).toNat ∧ (3#8 : Byte).toNat = (3 : ChamberNo).val ∧
    ((kiln .loaded 0 []).chamber 1).state ≠ .empty ∧ ((kiln .loaded 0 []).chamber 0).state = .empty ∧
    (∀ k ch, (kiln .loaded 0 []).chargeById (nat16 0#8 12#8) = some (k, ch) → ch.state ≠ .assigned) ∧
    ((stored .assigned none).chamber 1).state = .empty ∧
    (stored .assigned none).chargeById (nat16 0#8 12#8) = some (3, wood .assigned none none) := by
  refine ⟨by decide, by decide, by decide, by decide, by decide, ?_, by decide, by decide⟩
  exact found_only (k := 3) (ch := wood .loaded (some 1) none) (by decide +kernel) (by decide)

theorem witness_StartAnswers :
    (framing .kiln beforeStart).takesFrame .kiln = true ∧ 4 ≤ (4#8 : Byte).toNat ∧ (1#8 : Byte).toNat = (1 : ChamberNo).val ∧
    ((kiln .running 2 []).chamber 1).state ≠ .loaded ∧
    (let s := beforeStart.setMonitor 1 ⟨.opened, .opened, none, none⟩
     (s.chamber 1).state = .loaded ∧ (s.monitor 1).door = .opened) ∧
    (let s := beforeStart
     (s.chamber 1).state = .loaded ∧ (s.monitor 1).door = .closed ∧ (s.chamber 1).chargeSlot = some 3 ∧
      s.charge 3 = some (wood .loaded (some 1) none) ∧ s.schedules[(5 : Fin 16)] = some hardwood) ∧
    (let b := (beforeStart.bank 1).computed (beforeStart.chamber 1).settings
     2 = entryStep hardwood.steps b.stats ∧ hardwood.steps[2]? = some ⟨.dry, .wettestHalf, 280, 490, 50, 720, 10⟩ ∧
      b.dryBulb.trust = .good 385 ∧ 385 = max 200 (min 1200 385)) := by decide +kernel

theorem witness_EntryStepChosen :
    hardwoodSteps ≠ [] ∧ finals.values = some ⟨72, 69, 64, 76, 12⟩ ∧ (⟨0, none⟩ : Stats).values = none ∧
    (hardwoodSteps[6]? = some ⟨.equalize, .wettestHalf, 75, 710, 80, 720, 0⟩ ∧
      ∀ e st, e < 6 → hardwoodSteps[e]? = some st → ¬(st.phase = .equalize ∨ st.phase = .condition ∨ st.changeAt = 0 ∨ st.changeAt < 72)) ∧
    ∀ st ∈ hardwoodSteps.take 2, ¬(st.phase = .equalize ∨ st.phase = .condition ∨ st.changeAt = 0 ∨ st.changeAt < 350) := by
  refine ⟨by decide, rfl, rfl, ⟨rfl, ?_⟩, by decide⟩
  intro e st he h
  have all : ∀ x ∈ hardwoodSteps.take 6, ¬(x.phase = .equalize ∨ x.phase = .condition ∨ x.changeAt = 0 ∨ x.changeAt < 72) := by decide
  exact all st (List.mem_of_getElem? (by rw [List.getElem?_take_of_lt he]; exact h))

theorem witness_RunCommandsQueued :
    (framing .kiln (kiln .running 2 [])).takesFrame .kiln = true ∧ 4 ≤ (4#8 : Byte).toNat ∧ (1#8 : Byte).toNat = (1 : ChamberNo).val ∧
    ((kiln .cooling 2 []).chamber 1).state ∉ [ChamberState.running, .held, .doorHold] ∧
    (let s := kiln .doorHold 2 [.hold, .hold, .hold, .hold]
     (s.chamber 1).state ∈ [ChamberState.running, .held, .doorHold] ∧ 4 ≤ (s.chamber 1).queue.length) ∧
    (let s := kiln .held 2 [.hold, .hold, .hold]
     (s.chamber 1).state ∈ [ChamberState.running, .held, .doorHold] ∧ (s.chamber 1).queue.length < 4) := by decide

theorem witness_CoolingEntered : ((kiln .running 7 []).chamber 1).chargeSlot = some 3 ∧
    (kiln .running 7 []).charge 3 = some (wood .inKiln (some 1) none) := by decide +kernel

theorem witness_AbortAndRelease :
    (framing .kiln (kiln .running 2 [])).takesFrame .kiln = true ∧ 4 ≤ (4#8 : Byte).toNat ∧ (1#8 : Byte).toNat = (1 : ChamberNo).val ∧
    ((kiln .cooling 2 []).chamber 1).state ∉ [ChamberState.running, .held, .doorHold] ∧
    ((kiln .cooling 2 []).chamber 1).state ∉ [ChamberState.loaded, .complete] ∧
    (let s := kiln .doorHold 2 []
     (s.chamber 1).chargeSlot = some 3 ∧ s.charge 3 = some (wood .inKiln (some 1) none) ∧
      (s.chamber 1).state ∈ [ChamberState.running, .held, .doorHold] ∧ s.schedules[(5 : Fin 16)] = some hardwood) ∧
    (((kiln .loaded 0 []).chamber 1).chargeSlot = some 3 ∧ (kiln .loaded 0 []).charge 3 = some (wood .loaded (some 1) none) ∧
      ((kiln .loaded 0 []).chamber 1).state = .loaded) ∧
    ((kiln .complete 7 []).charge 3 = some (wood .dried (some 1) none) ∧ ((kiln .complete 7 []).chamber 1).state = .complete) := by
  refine ⟨by decide, by decide, by decide, by decide, by decide, ?_, by decide +kernel, by decide +kernel⟩
  exact ⟨by decide, by decide +kernel, by decide, by decide +kernel⟩

theorem witness_SettingsRequests :
    (framing .kiln library).takesFrame .kiln = true ∧ (framing .yard library).takesFrame .yard = true ∧ 4 ≤ (4#8 : Byte).toNat ∧
    (3#8 : Byte).toNat = (3 : ChamberNo).val ∧
    (nat16 0#8 59#8 < 60 ∧ 60 ≤ nat16 0#8 60#8 ∧ nat16 0x0E#8 0x10#8 ≤ 3600 ∧ 3600 < nat16 0x0E#8 0x11#8) ∧
    ((16#8 : Byte).toNat ≤ 16 ∧ nat16 0#8 200#8 ≤ 200 ∧ nat16 0#8 240#8 ≤ 240 ∧ (31#8 : Byte).toNat < 32 ∧ 32 ≤ (32#8 : Byte).toNat ∧
      debounceOfCode (3#8 : Byte).toNat = some .four ∧ ringModeOfCode (1#8 : Byte).toNat = some .stop ∧
      ringPolicyOfCode (0#8 : Byte).toNat = some .each ∧ 1 < (2#8 : Byte).toNat) ∧
    ((10#8 : Byte).toNat < 10 + 1 ∧ nat16 0x01#8 0x2C#8 ≤ 300 ∧ nat16 0x01#8 0xF4#8 ≤ 500 ∧ nat16 0x02#8 0x58#8 ≤ 600 ∧
      nat16 0x03#8 0x84#8 ≤ 900 ∧ (1#8 : Byte).toNat ≤ 1 ∧ 10 ≤ nat16 0#8 10#8 ∧ 3600 < nat16 0x0E#8 0x11#8) := by decide

/-- Chamber 1 stands ready for an evaluation instant at step `t`, its links and that step as the statements of instants ask. -/
abbrev InstantReady (s : State) (t : Nat) (st : Step) : Prop :=
  s.power.main = true ∧ (s.chamber 1).countdown = some ⟨0, 0, 3600⟩ ∧ (s.chamber 1).chargeSlot = some 3 ∧
  s.charge 3 = some (wood .inKiln (some 1) none) ∧ s.schedules[(5 : Fin 16)] = some hardwood ∧ (s.chamber 1).stepIndex = some t ∧
  hardwood.steps[t]? = some st ∧ t < hardwood.steps.length

/-- The CONDITION step of the worked schedule. -/
def conditioning : Step := ⟨.condition, .mean, 0, 710, 40, 480, 0⟩

/-- Step 2 of the worked schedule. -/
def drying : Step := ⟨.dry, .wettestHalf, 280, 490, 50, 720, 10⟩

theorem witness_InstantsWithoutRunStage :
    ((kiln .loaded 0 []).chamber 1).countdown = none ∧
    (let s := (kiln .running 2 []).modChamber 1 fun x => { x with countdown := some ⟨1, 0, 3600⟩ }
     s.power.main = true ∧ (s.chamber 1).countdown = some ⟨1, 0, 3600⟩) ∧
    (InstantReady (kiln .doorHold 2 []) 2 drying ∧ ((kiln .doorHold 2 []).chamber 1).state = .doorHold) ∧
    (InstantReady (kiln .held 7 []) 7 conditioning ∧ ((kiln .held 7 []).chamber 1).state = .held ∧
      ((kiln .held 7 []).chamber 1).queue = []) ∧
    (let s := (kiln .cooling 7 []).modChamber 1 fun x => { x with dwell := 7199 }
     InstantReady s 7 conditioning ∧ (s.chamber 1).state = .cooling ∧ 10799 = min ((s.chamber 1).dwell + 3600) 4294967295 ∧
      10799 < hardwood.coolTime * 60) ∧
    (let s := (kiln .cooling 7 []).modChamber 1 fun x => { x with dwell := 10800 }
     InstantReady s 7 conditioning ∧ (s.chamber 1).state = .cooling ∧ 14400 = min ((s.chamber 1).dwell + 3600) 4294967295 ∧
      hardwood.coolTime * 60 ≤ 14400) := by
  refine ⟨by decide, by decide, by decide +kernel, by decide +kernel, by decide +kernel, by decide +kernel⟩

/-- The four cases: count 6; count 5 with no advance; the advance of instant 12 of the worked run, on 27.4 %; the last step on dwell. -/
theorem witness_RunningInstant :
    (let s := (kiln .running 2 []).modChamber 1 fun x => { x with invalidCount := 5 }
     InstantReady s 2 drying ∧ (s.chamber 1).state = .running ∧ (s.chamber 1).queue = [] ∧
      ((s.bank 1).computed (s.chamber 1).settings).stats.values = none ∧ 6 ≤ min ((s.chamber 1).invalidCount + 1) 65535) ∧
    (let s := (kiln .running 2 []).modChamber 1 fun x => { x with invalidCount := 4 }
     InstantReady s 2 drying ∧ (s.chamber 1).state = .running ∧ min ((s.chamber 1).invalidCount + 1) 65535 < 6 ∧
      ¬(drying.minDwell * 60 ≤ min ((s.chamber 1).dwell + 3600) 4294967295)) ∧
    (let s := ((kiln .running 2 []).modChamber 1 fun x => { x with dwell := 39600 }).setBank 1
       { ((kiln .running 2 []).bank 1) with samples := Vector.replicate 16 { SampleSlot.cleared true with trust := .good 274 } }
     InstantReady s 2 drying ∧ (s.chamber 1).state = .running ∧ drying.minDwell * 60 ≤ min ((s.chamber 1).dwell + 3600) 4294967295 ∧
      (((s.bank 1).computed (s.chamber 1).settings).stats.values.map (·.wettestHalf)) = some 274 ∧ 274 ≤ drying.changeAt ∧
      (hardwood.steps[2 + 1]?).isSome) ∧
    (let s := (kiln .running 7 []).modChamber 1 fun x => { x with dwell := 25200 }
     InstantReady s 7 conditioning ∧ (s.chamber 1).state = .running ∧
      conditioning.minDwell * 60 ≤ min ((s.chamber 1).dwell + 3600) 4294967295 ∧ conditioning.changeAt = 0 ∧
      hardwood.steps.length = 7 + 1) := by
  refine ⟨by decide +kernel, by decide +kernel, by decide +kernel, by decide +kernel⟩

/-- HOLD and RESUME with the chamber RUNNING and HELD; STEP with and without a next step; SKIP-PHASE with and without a later one. -/
theorem witness_RunCommandsServed :
    (InstantReady (kiln .running 2 [.hold]) 2 drying ∧ ((kiln .running 2 [.hold]).chamber 1).queue = .hold :: [] ∧
      (kiln .running 2 [.hold]).bound 1 = some (3, wood .inKiln (some 1) none) ∧
      ((((kiln .running 2 [.hold]).statsStage 1).countStage 1).chamber 1).state = .running) ∧
    (((((kiln .held 2 [.hold]).statsStage 1).countStage 1).chamber 1).state = .held ∧ ((kiln .held 2 [.hold]).chamber 1).queue = [.hold]) ∧
    (InstantReady (kiln .held 2 [.resume, .step]) 2 drying ∧ ((kiln .held 2 [.resume, .step]).chamber 1).queue = .resume :: [.step]) ∧
    (InstantReady (kiln .running 2 [.step]) 2 drying ∧ (hardwood.steps[2 + 1]?).isSome ∧
      InstantReady (kiln .running 7 [.step]) 7 conditioning ∧ hardwood.steps.length = 7 + 1) ∧
    (hardwood.steps[6]? = some ⟨.equalize, .wettestHalf, 75, 710, 80, 720, 0⟩ ∧ 2 < 6 ∧ Phase.code .dry < Phase.code .equalize ∧
      (∀ st ∈ hardwood.steps.take 6, st.phase.code ≤ Phase.code .dry) ∧ InstantReady (kiln .running 2 [.skipPhase]) 2 drying) ∧
    (InstantReady (kiln .running 7 [.skipPhase]) 7 conditioning ∧ ∀ st ∈ hardwood.steps.drop 8, st.phase.code ≤ Phase.code .condition) := by
  refine ⟨?_, by decide +kernel, by decide +kernel, ?_, ?_, by decide +kernel⟩
  · exact ⟨by decide +kernel, by decide +kernel, by decide +kernel, by decide +kernel⟩
  · exact ⟨by decide +kernel, by decide +kernel, by decide +kernel, by decide +kernel⟩
  · exact ⟨by decide +kernel, by decide +kernel, by decide +kernel, by decide +kernel, by decide +kernel⟩

theorem witness_RampMoves :
    2 = (0 + 30 * 300) / 3600 ∧ (30 ≠ 0 ∧ 540 < 600 ∧ 540 + 2 < 600) ∧ (597 < 600 ∧ 600 ≤ 597 + 3 ∧ 3 = (1800 + 30 * 300) / 3600) ∧
    (385 < 490 ∧ 430 < 490 ∧ 490 ≤ 490 + 2 ∧ 430 + 2 < 490) := by decide

theorem witness_DoorInputs :
    State.reset.power.main = true ∧ DoorLevel.closed = (State.reset.monitor 1).door ∧ DoorLevel.opened ≠ (State.reset.monitor 1).door ∧
    (State.reset.monitor 1).debounce = none ∧
    (let s := State.reset.setMonitor 1 ⟨.opened, .closed, some ⟨63, 64⟩, none⟩
     DoorLevel.opened ≠ (s.monitor 1).door ∧ (s.monitor 1).debounce ≠ none) ∧
    (State.reset.chamber 1).settings.debounce = .one ∧
    (let s := State.reset.modChamber 1 fun x => { x with settings := { x.settings with debounce := .quarter } }
     (s.chamber 1).settings.debounce = .quarter ∧ (s.monitor 1).debounce = none) ∧
    (let s := State.reset.modChamber 1 fun x => { x with settings := { x.settings with debounce := .four } }
     (s.chamber 1).settings.debounce = .four ∧ (s.monitor 1).debounce = none) ∧
    (let s := State.reset.modChamber 1 fun x => { x with settings := { x.settings with debounce := .zero } }
     (s.chamber 1).settings.debounce = .zero ∧ (s.monitor 1).debounce = none) ∧
    (let s := (kiln .doorHold 2 []).setMonitor 1 ⟨.opened, .opened, none, some ⟨76801, false⟩⟩
     (s.chamber 1).state = .doorHold ∧ (s.monitor 1).hold = some ⟨76801, false⟩ ∧ (s.chamber 1).settings.doorLimit * 3840 < 76801) ∧
    (let s := (kiln .doorHold 2 []).setMonitor 1 ⟨.opened, .opened, none, some ⟨76800, false⟩⟩
     (s.monitor 1).hold = some ⟨76800, false⟩ ∧ 76800 ≤ (s.chamber 1).settings.doorLimit * 3840) := by
  refine ⟨by decide, by decide, by decide, by decide, by decide, by decide, by decide, by decide, by decide, by decide, by decide⟩

theorem witness_DoorChangesAccepted :
    (let s := State.reset.setMonitor 1 ⟨.opened, .closed, some ⟨63, 64⟩, none⟩
     s.power.main = true ∧ (s.monitor 1).debounce = some ⟨63, 64⟩ ∧ (63 : Nat) < 64) ∧
    (let s := State.reset.setMonitor 1 ⟨.opened, .closed, some ⟨64, 64⟩, none⟩
     (s.monitor 1).door = .closed ∧ (s.monitor 1).input = .opened ∧ (s.chamber 1).state ∉ [ChamberState.running, .held]) ∧
    (let s := (kiln .running 2 []).setMonitor 1 ⟨.opened, .closed, some ⟨64, 64⟩, none⟩
     (s.monitor 1).door = .closed ∧ (s.monitor 1).input = .opened ∧ (s.chamber 1).chargeSlot = some 3 ∧
      s.charge 3 = some (wood .inKiln (some 1) none) ∧ (s.chamber 1).state = .running) ∧
    (let s := (kiln .held 2 []).setMonitor 1 ⟨.opened, .closed, some ⟨64, 64⟩, none⟩
     (s.chamber 1).state = .held ∧ s.charge 3 = some (wood .inKiln (some 1) none)) ∧
    (let s := (kiln .loaded 0 []).setMonitor 1 ⟨.closed, .opened, some ⟨64, 64⟩, none⟩
     (s.monitor 1).door = .opened ∧ (s.monitor 1).input = .closed ∧ (s.chamber 1).state ≠ .doorHold) ∧
    (let s := (kiln .doorHold 2 []).setMonitor 1 ⟨.closed, .opened, some ⟨64, 64⟩, some ⟨76801, true⟩⟩
     (s.chamber 1).state = .doorHold ∧ (s.monitor 1).hold = some ⟨76801, true⟩ ∧ (s.chamber 1).returnState = some .running ∧
      s.charge 3 = some (wood .inKiln (some 1) none) ∧ (s.chamber 1).settings.doorLimit * 3840 < 76801 ∧
      76800 ≤ (s.chamber 1).settings.doorLimit * 3840) := by
  refine ⟨by decide, by decide, ?_, by decide +kernel, by decide, ?_⟩
  · exact ⟨by decide, by decide, by decide, by decide +kernel, by decide⟩
  · exact ⟨by decide, by decide, by decide, by decide +kernel, by decide, by decide⟩

/-- A ring of eight entries in STOP mode, its overflow flag as given. -/
def fullRing (mode : RingMode) (n : Nat) : State :=
  let s := State.reset.setRing 1 ⟨List.replicate n ⟨65535, ⟨0, 0⟩, true, .complete, .complete, some 7, none, none⟩, 65535, false⟩
  s.modChamber 1 fun x => { x with settings := { x.settings with ringMode := mode } }

theorem witness_EventsRecorded :
    (let s := State.reset.modChamber 1 fun x => { x with settings := { x.settings with ringEnables := 0b11101#5 } }
     (s.chamber 1).settings.ringEnables.getLsbD Event.complete.group = false) ∧
    (let s := fullRing .stop 7
     (s.chamber 1).settings.ringEnables.getLsbD Event.complete.group = true ∧ (s.eventRing 1).counter ≤ 65535 ∧
      (s.eventRing 1).entries.length < 8 ∧ (s.eventRing 1).entries.length = 7) ∧
    (let s := fullRing .overwrite 8
     (s.chamber 1).settings.ringEnables.getLsbD Event.complete.group = true ∧ (s.eventRing 1).entries.length = 8 ∧
      (s.chamber 1).settings.ringMode = .overwrite) ∧
    (let s := fullRing .stop 8
     (s.eventRing 1).entries.length = 8 ∧ (s.chamber 1).settings.ringMode = .stop) := by decide

theorem witness_MarkAnswers :
    (framing .line (fullRing .stop 8)).takesFrame .line = true ∧ 4 ≤ (4#8 : Byte).toNat ∧ (1#8 : Byte).toNat = (1 : ChamberNo).val ∧
    (let s := State.reset.modChamber 1 fun x => { x with settings := { x.settings with ringEnables := 0b10111#5 } }
     (s.chamber 1).settings.ringEnables.getLsbD 3 = false) ∧
    (let s := fullRing .stop 8
     (s.chamber 1).settings.ringEnables.getLsbD 3 = true ∧ (s.eventRing 1).entries.length = 8 ∧ (s.chamber 1).settings.ringMode = .stop) ∧
    (let s := fullRing .stop 7
     (s.chamber 1).settings.ringEnables.getLsbD 3 = true ∧ (s.eventRing 1).counter ≤ 65535 ∧ (s.eventRing 1).entries.length < 8) := by
  decide

theorem witness_BoardsNotCounted :
    (let s := { line true false 5 1 with boardRx := .frame 3 }
     s.power.main = true ∧ s.boardRx = .frame 3 ∧ (3 : Nat) < 4 ∧ s.lastSeq = some 200#8 ∧ (∀ d ∈ s.draw, d.ending = true)) ∧
    ¬(201#8 + 0x02#8 + 0x59#8 + 1#8 + 110#8 + 0#8 = 0#8) ∧ ¬(nat16 0x02#8 0x59#8 ≤ 600 ∨ nat16 0x02#8 0x59#8 = 0xFFFF) ∧
    (201#8 + 0x02#8 + 0x58#8 + 0x03#8 + 0x84#8 + 0x56#8 = 0#8 ∧ nat16 0x02#8 0x58#8 ≤ 600 ∧ 60 ≤ nat16 0x03#8 0x84#8 ∧
      nat16 0x03#8 0x84#8 ≤ 900) ∧
    (200#8 + 0xFF#8 + 0xFF#8 + 0#8 + 60#8 + 0xFE#8 = 0#8 ∧ nat16 0xFF#8 0xFF#8 = 0xFFFF ∧ 60 ≤ nat16 0#8 60#8) ∧
    (16 ≤ (217#8 - 200#8 - 1#8 : Byte).toNat ∧ ¬16 ≤ (216#8 - 200#8 - 1#8 : Byte).toNat) := by
  refine ⟨⟨by decide, by decide, by decide, by decide, by decide⟩, by decide, by decide, by decide, by decide, by decide⟩

theorem witness_BoardsCounted :
    (4294967294 + 1 ≤ 4294967295) ∧
    (let s := { line false true 16 31 with boardRx := .frame 3 }
     s.power.main = true ∧ s.boardRx = .frame 3 ∧ (3 : Nat) < 4 ∧ s.draw = some ⟨false, 3, true⟩ ∧
      s.charge 3 = some (wood .onLine none (some 16)) ∧ (wood .onLine none (some 16)).remaining = some 16 ∧
      s.lastSeq = some 200#8 ∧ s.fifo.length < 32) ∧
    (216#8 + 0#8 + 85#8 + 0#8 + 180#8 + 31#8 = 0#8 ∧ nat16 0#8 85#8 ≤ 600 ∧ 60 ≤ nat16 0#8 180#8 ∧ 15 = (216#8 - 200#8 - 1#8 : Byte).toNat) ∧
    (217#8 + 0#8 + 86#8 + 0#8 + 179#8 + 30#8 = 0#8 ∧ 16 ≤ (217#8 - 200#8 - 1#8 : Byte).toNat ∧ 70 + 15 < nat16 0#8 86#8 ∧
      nat16 0#8 179#8 < 180) ∧
    { line false true 1 32 with lastSeq := none }.lastSeq = none ∧ 32 ≤ (line false true 1 32).fifo.length := by
  refine ⟨by decide, ?_, by decide, by decide, by decide, by decide +kernel⟩
  exact ⟨by decide, by decide, by decide, by decide, by decide +kernel, by decide, by decide, by decide +kernel⟩

theorem witness_DrawRequests :
    (framing .line (stored .released none)).takesFrame .line = true ∧ 2 ≤ (2#8 : Byte).toNat ∧
    ((1#8 : Byte).toNat < 2 ∧ (framing .line (line true false 5 0)).draw ≠ none) ∧
    ((stored .dried none).draw = none ∧ ∀ k ch, (stored .dried none).chargeById (nat16 0#8 12#8) = some (k, ch) → ch.state ≠ .released) ∧
    ((stored .released none).draw = none ∧ (stored .released none).chargeById (nat16 0#8 12#8) = some (3, wood .released none none)) ∧
    (∀ d ∈ (line true false 5 0).draw, d.ending = true) ∧
    ((line false false 5 0).draw = some ⟨false, 3, false⟩ ∧ (line false false 5 0).charge 3 = some (wood .onLine none (some 5))) := by
  refine ⟨by decide, by decide, by decide, ⟨by decide, ?_⟩, by decide +kernel, by decide, by decide +kernel⟩
  exact found_only (k := 3) (ch := wood .dried none none) (by decide +kernel) (by decide)

/-- All sixteen pack slots hold CLOSED packs, and one record waits in the FIFO. -/
def stuck : State :=
  { line false false 5 1 with packs := Vector.ofFn fun k : Fin 16 => some (bundle .closed none (some sticker) (k.val + 1)) }

theorem witness_TallyMoves :
    (stuck.fifo ≠ [] ∧ stuck.openPack = none ∧ (∀ k, stuck.pack k ≠ none) ∧ stuck.blocked = false) ∧
    ({ stuck with blocked := true }.blocked = true ∧ (line false false 5 0).fifo = []) ∧
    (labels.power.main = true ∧ labels.fifo = ⟨3, some 66, 400⟩ :: [] ∧ labels.charge 3 = some (wood .onLine none (some 1200))) ∧
    (labels.openPack = some (7, bundle .opened (some 3) none 73) ∧ (bundle .opened (some 3) none 73).boards + 1 = (bundle .opened (some 3) none 73).target) ∧
    (labels.closeView (bundle .opened (some 3) none 73) ≠ none ∧ (bundle .opened (some 3) none 73).chargeSlot = some 3) ∧
    (let s := labels.setPack 7 (some { bundle .opened (some 3) none 73 with boards := 198 })
     s.openPack = some (7, { bundle .opened (some 3) none 73 with boards := 198 }) ∧ 198 + 1 ≠ 200) ∧
    (let s := (line false false 5 1).setPack 0 (some (bundle .closed none (some sticker) 70))
     s.openPack = none ∧ s.pack 1 = none ∧ (∀ j, j < 1 → s.pack j ≠ none) ∧ s.plan.target ≠ 1) := by
  refine ⟨?_, by decide, ?_, ?_, by decide +kernel, by decide +kernel, by decide +kernel⟩
  · exact ⟨by decide, by decide +kernel, by decide +kernel, by decide⟩
  · exact ⟨by decide, by decide, by decide +kernel⟩
  · exact ⟨by decide +kernel, by decide⟩

/-- The close of the OPEN pack of the worked queue reaches a next state. -/
theorem witness_TallyMoves_close : ∃ t, State.closePack .target 7
    { bundle .opened (some 3) none 73 with boards := 200, totalLength := 80400, measured := 198, mcSum := 19566, maxMc := some 114 }
    { labels with
      fifo := [], blocked := false
      packs := labels.packs.set 7 (some { bundle .opened (some 3) none 73 with
        boards := 200, totalLength := 80400, measured := 198, mcSum := 19566, maxMc := some 114 })
      charges := labels.charges.set 3 (some { wood .onLine none (some 1200) with packed := addCount 0 1 }) } = some t :=
  Option.isSome_iff_exists.mp (by decide +kernel)

theorem witness_PackCloses :
    (let p := bundle .opened (some 3) none 73
     let v : CloseView := ⟨3, wood .onLine none (some 1200), finals, 2000000, 2590400, 1200⟩
     p.chargeSlot = some v.slot ∧ labels.charge v.slot = some v.charge ∧ v.charge.finalStats = some v.final ∧
      v.charge.startTime = some v.start ∧ v.charge.endTime = some v.finish ∧ v.charge.remaining = some v.remaining) ∧
    ((framing .line labels).takesFrame .line = true ∧ (framing .line library).openPack = none ∧
      (framing .line labels).openPack = some (7, bundle .opened (some 3) none 73) ∧
      ((framing .line labels).closePack .closePack 7 (bundle .opened (some 3) none 73)).isSome) ∧
    (labels.silence = none ∧ { labels with silence := some ⟨1, 0, 300, true⟩ }.silence = some ⟨1, 0, 300, true⟩) ∧
    (let s := { labels with silence := some ⟨0, 0, 300, true⟩ }
     s.power.main = true ∧ s.silence = some ⟨0, 0, 300, true⟩ ∧ s.openPack = some (7, bundle .opened (some 3) none 73) ∧
      (State.closePack .idle 7 (bundle .opened (some 3) none 73) (State.raise .idle { s with silence := none })).isSome) := by
  refine ⟨?_, ?_, by decide, ?_⟩
  · exact ⟨by decide, by decide +kernel, by decide, by decide, by decide, by decide⟩
  · exact ⟨by decide, by decide +kernel, by decide +kernel, by decide +kernel⟩
  · exact ⟨by decide, by decide, by decide +kernel, by decide +kernel⟩

theorem witness_DrawEnds :
    (line true false 5 0).power.main = true ∧ (stored .released none).draw = none ∧ (∃ d, (line false false 5 0).draw = some d ∧ d.ending = false) ∧
    (∃ b ∈ (line true false 5 1).fifo, b.slot = 3) ∧
    ((line true false 5 0).draw = some ⟨true, 3, false⟩ ∧ (∀ b ∈ (line true false 5 0).fifo, b.slot ≠ 3) ∧
      (line true false 5 0).openPack = none ∧ (line true false 5 0).charge 3 = some (wood .onLine none (some 5))) ∧
    (let s := { labels with fifo := [], draw := some ⟨true, 3, false⟩ }
     s.openPack = some (7, bundle .opened (some 3) none 73) ∧
      ((s.closePack .drawEnd 7 (bundle .opened (some 3) none 73)).bind (fun t => t.charge 3)).map (·.remaining) = some (some 1200)) := by
  refine ⟨by decide, by decide, ⟨_, rfl, rfl⟩, by decide, ?_, by decide +kernel⟩
  exact ⟨by decide, by decide, by decide +kernel, by decide +kernel⟩

theorem witness_LabelComputed :
    ({ bundle .opened (some 3) none 73 with measured := 0 }.measured = 0 ∧ (bundle .opened (some 3) none 73).measured ≠ 0) ∧
    ([66, 67] ≠ [] ∧ { bundle .opened (some 3) none 73 with mcSum := 133, measured := 2 }.mcSum = [66, 67].sum ∧
      (labelOf .idle ⟨0, 0, false⟩ { bundle .opened (some 3) none 73 with mcSum := 133, measured := 2 }
        ⟨3, wood .onLine none (some 0), finals, 0, 0, 0⟩).meanMc = some 67) ∧
    ({ bundle .opened (some 3) none 73 with totalLength := 450000, thickness := 100, width := 300 }.totalLength ≤ 450000) := by
  decide +kernel

/-- The label of a closed pack 72 of the worked queue, byte by byte from the table of R176. -/
theorem test_label_bytes : labelRecord (bundle .closed none (some sticker) 72) sticker =
    [0#8, 72#8, 0#8, 12#8, 0#8, 0#8, 0#8, 2#8, 5#8, 25#8, 0#8, 150#8, 0#8, 200#8, 0x01#8, 0x90#8] ++
    [0#8, 0#8, 0#8, 0#8, 0#8, 0#8, 0#8, 0#8, 0#8, 0#8, 0#8, 0#8, 199#8, 0#8, 197#8, 0#8, 2#8] ++
    [0#8, 0x01#8, 0x38#8, 0x80#8, 0#8, 0#8, 0x0B#8, 0xE7#8, 1#8, 0#8, 99#8, 1#8, 0#8, 114#8, 0#8, 100#8, 0#8, 104#8, 14#8] ++
    [0#8, 0x3E#8, 0x8F#8, 0xA0#8, 0#8, 0x4F#8, 0x81#8, 0x20#8, 0#8, 2#8, 0#8, 32#8, 0#8] ++ List.replicate 11 0#8 ++ [0#8, 0#8] := by
  decide +kernel

theorem witness_LabelRequests :
    (framing .yard labels).takesFrame .yard = true ∧ (∀ k ∈ (framing .yard library).labelQueue, (framing .yard library).packIn .closed k = false) ∧
    (labels.labelQueue = [4, 5] ++ 6 :: [] ∧ (∀ j ∈ ([4, 5] : List (Fin 16)), labels.packIn .closed j = false) ∧
      labels.pack 6 = some (bundle .closed none (some sticker) 72)) ∧
    (nat16 0#8 0#8 = 0 ∧ ∀ k, ∀ p ∈ labels.pack k, p.number ≠ nat16 0#8 74#8) ∧
    (labels.packByNumber (nat16 0#8 72#8) = some (6, bundle .closed none (some sticker) 72) ∧
      labels.packByNumber (nat16 0#8 73#8) = some (7, bundle .opened (some 3) none 73)) ∧
    (labels.packByNumber (nat16 0#8 71#8) = some (5, bundle .issued none (some sticker) 71) ∧ labels.labelQueue = [4] ++ 5 :: [6] ∧
      5 ∉ ([4] : List (Fin 16)) ∧ labels.packIn .issued 4 = true) ∧
    (labels.packByNumber (nat16 0#8 70#8) = some (4, bundle .issued none (some sticker) 70) ∧ labels.labelQueue = [] ++ 4 :: [5, 6] ∧
      4 ∉ ([5, 6] : List (Fin 16)) ∧ (bundle .issued none (some sticker) 70).label = some sticker) := by
  refine ⟨by decide, by decide, ?_, ?_, ?_, ?_, ?_⟩
  · exact ⟨by decide, by decide +kernel, by decide +kernel⟩
  · exact ⟨by decide, by decide +kernel⟩
  · exact ⟨by decide +kernel, by decide +kernel⟩
  · exact ⟨by decide +kernel, by decide, by decide, by decide +kernel⟩
  · exact ⟨by decide +kernel, by decide, by decide, by decide⟩

theorem witness_ClockSetAndWrapped :
    (framing .yard State.reset).takesFrame .yard = true ∧ { State.reset with clock := ⟨4294967295, 62, false⟩ }.clock.sixtyFourths < 63 ∧
    { State.reset with clock := ⟨4294967294, 63, false⟩ }.clock.seconds < 4294967295 ∧
    { State.reset with clock := ⟨4294967295, 63, true⟩ }.clock = ⟨4294967295, 63, true⟩ ∧
    { State.reset with clock := ⟨4294967295, 63, false⟩ }.clock = ⟨4294967295, 63, false⟩ := by decide

theorem witness_PowerLostAndVbat : State.reset.power.main = true ∧ (dark true State.reset).power.main = false := by decide

/-- One chamber in each of the five cases, by what the doors read when main power returns. -/
theorem witness_PowerReturns :
    (dark true (kiln .running 4 [])).power.main = false ∧ (dark true (kiln .running 4 [])).power.holdMarker = true ∧
    ((dark true (kiln .running 4 [])).chamber 1).state ∈ [ChamberState.running, .held] ∧
    ((dark true (kiln .doorHold 4 [])).chamber 1).state = .doorHold ∧
    ((dark true (kiln .cooling 7 [])).chamber 1).state ∈ [ChamberState.empty, .loaded, .cooling, .complete] ∧
    (DoorLevel.closed = [DoorLevel.opened, .closed, .opened, .opened].getD (1 : ChamberNo).val .closed ∧
      DoorLevel.opened = [DoorLevel.closed, .opened, .closed, .closed].getD (1 : ChamberNo).val .closed) ∧
    ((dark true (kiln .doorHold 4 [])).Linked ∧ ((dark true (kiln .doorHold 4 [])).chamber 1).chargeSlot = some 3 ∧
      (dark true (kiln .doorHold 4 [])).charge 3 = some (wood .inKiln (some 1) none)) ∧
    ((dark true (kiln .running 4 [])).Linked ∧ ((dark true (kiln .running 4 [])).chamber 1).chargeSlot = some 3 ∧
      (dark true (kiln .running 4 [])).charge 3 = some (wood .inKiln (some 1) none) ∧ ∀ c, ((dark true (kiln .running 4 [])).chamber c).chargeSlot ≠ some 7) ∧
    (((dark true (fullRing .stop 8)).chamber 1).state = .empty ∧
      (let s := dark true ((kiln .running 4 []).setRing 1 ((fullRing .stop 7).eventRing 1))
       (s.chamber 1).state ≠ .empty ∧ (s.chamber 1).settings.ringEnables.getLsbD 4 = true ∧ (s.eventRing 1).counter ≤ 65535 ∧
        (s.eventRing 1).entries.length = 7 ∧ ¬(8 ≤ (s.eventRing 1).entries.length) ∧ (s.chamber 0).settings.ringEnables.getLsbD 4 = true)) := by
  refine ⟨by decide, by decide, by decide, by decide, by decide, by decide, ?_, ?_, by decide +kernel⟩
  · exact ⟨by decide +kernel, by decide, by decide +kernel⟩
  · exact ⟨by decide +kernel, by decide, by decide +kernel, by decide +kernel⟩

theorem witness_ClearedStarts : State.reset.power.main = true ∧ (dark false (kiln .running 4 [])).power.main = false ∧
    (dark false (kiln .running 4 [])).power.holdMarker = false := by decide

theorem witness_Resets : (kiln .running 4 [.hold]).power.main = true := by decide

/-! ### The invariants hold in states that are not empty, and a step completes there -/

/-- A chamber RUNNING, a second charge drawn with a pack OPEN, labels waiting, and a command in the queue. -/
def busy (i : Instr) : State :=
  let s := kiln .running 4 [.step]
  { labels with
    pending := [i]
    chambers := s.chambers.set 1 { s.chamber 1 with chargeSlot := some 0 }
    charges := (labels.charges.set 0 (some { wood .inKiln (some 1) none with id := 13 })).set 3
      (some { wood .onLine none (some 1799) with graded := 1 })
    chargeCounter := 14
    packCounter := 74 }

theorem witness_PortsKept : (∃ t, step (busy .tallyMove) = .next t) ∧ (busy .tallyMove).NoticesOwn ∧ (busy .tallyMove).PowerKept ∧
    (∃ t, step { dark true State.reset with pending := [.powerReturn .closed .closed .closed .closed] } = .next t) ∧
    (dark true State.reset).PowerKept :=
  ⟨moves_iff (by decide +kernel), by decide +kernel, by decide +kernel, moves_iff (by decide +kernel), by decide +kernel⟩

theorem witness_StoresKept : (∃ t, step (busy (.evaluationInstant 1)) = .next t) ∧ (busy (.evaluationInstant 1)).StoresFit ∧
    (busy (.evaluationInstant 1)).RingsInOrder ∧ (busy (.evaluationInstant 1)).BlockKept ∧ { stuck with blocked := true }.BlockKept ∧
    { stuck with blocked := true }.tallyStuck = true :=
  ⟨moves_iff (by decide +kernel), by decide +kernel, by decide +kernel, by decide +kernel, by decide +kernel, by decide +kernel⟩

theorem witness_SetpointsKept : (∃ t, step (busy (.evaluationInstant 1)) = .next t) ∧ (busy (.evaluationInstant 1)).RecordsValid ∧
    (busy (.evaluationInstant 1)).SetpointsInRange :=
  ⟨moves_iff (by decide +kernel), by decide +kernel, by decide +kernel⟩

theorem witness_MoistureKept :
    let s := { probing (beforeReading .running (.good 131) 50) with pending := [.probeFrame 1#8 5#8 0x03#8 0x4D#8 0xAA#8] }
    (∃ t, step s = .next t) ∧ s.MoistureInRange :=
  ⟨moves_iff (by decide +kernel), by decide +kernel⟩

theorem witness_LinksKept : (∃ t, step (busy .tallyMove) = .next t) ∧ (busy .tallyMove).Linked :=
  ⟨moves_iff (by decide +kernel), by decide +kernel⟩

theorem witness_SoundNeverStops : (busy .tallyMove).Sound :=
  ⟨by decide +kernel, by decide +kernel, by decide +kernel, by decide +kernel, by decide +kernel, by decide +kernel, by decide +kernel⟩

theorem witness_CountsKept : (∃ t, step (busy .tallyMove) = .next t) ∧ (busy .tallyMove).Sound ∧ (busy .tallyMove).CountsBelowTop ∧
    (busy .tallyMove).CountsAgree :=
  ⟨moves_iff (by decide +kernel), witness_SoundNeverStops, by decide +kernel, by decide +kernel⟩

theorem witness_PacksAndLabelsKept : (∃ t, step (busy .tallyMove) = .next t) ∧ (busy .tallyMove).Sound ∧ (busy .tallyMove).PacksInRange ∧
    (busy .tallyMove).LabelsQueued :=
  ⟨moves_iff (by decide +kernel), witness_SoundNeverStops, by decide +kernel, by decide +kernel⟩

theorem witness_NumbersKept : (∃ t, step (busy .tallyMove) = .next t) ∧ (busy .tallyMove).IdsDistinct ∧
    (busy .tallyMove).PackNumbersDistinct :=
  ⟨moves_iff (by decide +kernel), by decide +kernel, by decide +kernel⟩

end Sys2Proof.Machine.Sample
end

-- ==== Proofs: the number search ====
section
/-! The number search of R2 and R128: with a FREE record it ends within as many candidates as there are records. -/

namespace Sys2Proof.Machine

/-! ### The candidates -/

/-- The candidates of a search count through 1..65535 and start again at 1. -/
theorem nextNumber_iterate {n : Nat} (h1 : 1 ≤ n) (h2 : n ≤ 65535) (m : Nat) :
    nextNumber^[m] n = (n - 1 + m) % 65535 + 1 := by
  induction m with
  | zero => simp only [Function.iterate_zero, id_eq]; omega
  | succ m ih =>
    rw [Function.iterate_succ_apply', ih, nextNumber]
    split <;> omega

theorem nextNumber_mem_range (n : Nat) : 1 ≤ nextNumber n ∧ nextNumber n ≤ 65535 := by
  unfold nextNumber
  split <;> omega

/-- Fewer than 65535 candidates in a row are distinct. -/
theorem nextNumber_iterate_inj {n i j : Nat} (h1 : 1 ≤ n) (h2 : n ≤ 65535) (hi : i < 65535) (hj : j < 65535)
    (h : nextNumber^[i] n = nextNumber^[j] n) : i = j := by
  rw [nextNumber_iterate h1 h2, nextNumber_iterate h1 h2] at h
  omega

/-- Where a search ends: at the first candidate that is not present, or past all of its candidates. -/
theorem firstAbsent_cases (present : Nat → Bool) (fuel n : Nat) :
    (∃ m < fuel, firstAbsent present fuel n = nextNumber^[m] n ∧ present (nextNumber^[m] n) = false ∧
      ∀ i < m, present (nextNumber^[i] n) = true) ∨
    ∀ i < fuel, present (nextNumber^[i] n) = true := by
  induction fuel generalizing n with
  | zero => exact .inr fun i hi => absurd hi (Nat.not_lt_zero i)
  | succ fuel ih =>
    cases hn : present n with
    | false => exact .inl ⟨0, Nat.succ_pos _, by simp [firstAbsent, hn], by simpa using hn, by simp⟩
    | true =>
      have shift : ∀ m, (∀ i < m, present (nextNumber^[i] (nextNumber n)) = true) →
          ∀ i < m + 1, present (nextNumber^[i] n) = true := by
        intro m hm i hi
        cases i with
        | zero => simpa using hn
        | succ i => exact hm i (by omega)
      obtain ⟨m, hm, he, ha, hp⟩ | hp := ih (nextNumber n)
      · exact .inl ⟨m + 1, by omega, by simpa [firstAbsent, hn] using he, ha, shift m hp⟩
      · exact .inr (shift fuel hp)

/-- A table with a FREE record cannot hold every one of as many candidates as it has records (R2, R128). -/
theorem firstAbsent_of_free {N n : Nat} {number : Fin N → Option Nat} {present : Nat → Bool} (hN : N ≤ 65535)
    (hp : ∀ x, present x = true ↔ ∃ k, number k = some x) (h1 : 1 ≤ n) (h2 : n ≤ 65535) (hfree : ∃ k, number k = none) :
    ∃ m < N, firstAbsent present N n = nextNumber^[m] n ∧ present (nextNumber^[m] n) = false ∧
      ∀ i < m, present (nextNumber^[i] n) = true := by
  obtain h | hall := firstAbsent_cases present N n
  · exact h
  · have hk : ∀ i : Fin N, ∃ k, number k = some (nextNumber^[i] n) := fun i => (hp _).1 (hall i i.isLt)
    choose slot hslot using hk
    have hinj : Function.Injective slot := fun i j hij => by
      have : nextNumber^[i] n = nextNumber^[j] n := Option.some.inj ((hslot i).symm.trans (hij ▸ hslot j))
      exact Fin.ext (nextNumber_iterate_inj h1 h2 (by omega) (by omega) this)
    obtain ⟨k, hk⟩ := hfree
    obtain ⟨i, rfl⟩ := Finite.surjective_of_injective hinj k
    exact absurd (hk.symm.trans (hslot i)) (by simp)

/-! ### The records a number is present in -/

theorem mem_allChargeSlots (k : Fin 8) : k ∈ allChargeSlots := by
  revert k; decide

theorem mem_allPackSlots (k : Fin 16) : k ∈ allPackSlots := by
  revert k; decide

theorem idPresent_iff {s : State} {id : Nat} : s.idPresent id = true ↔ ∃ k, (s.charge k).map Charge.id = some id := by
  simp only [State.idPresent, List.any_eq_true, mem_allChargeSlots, true_and]
  refine exists_congr fun k => ?_
  cases s.charge k <;> simp

theorem idPresent_id {s : State} {k : Fin 8} {ch : Charge} (hk : s.charge k = some ch) : s.idPresent ch.id = true :=
  idPresent_iff.2 ⟨k, by simp [hk]⟩

theorem packByNumber_isSome_iff {s : State} {n : Nat} :
    (s.packByNumber n).isSome = true ↔ ∃ k, (s.pack k).map Pack.number = some n := by
  simp only [State.packByNumber, List.isSome_findSome?, List.any_eq_true, mem_allPackSlots, true_and]
  refine exists_congr fun k => ?_
  cases s.pack k <;> simp [apply_ite Option.isSome]

theorem packByNumber_number {s : State} {k : Fin 16} {p : Pack} (hk : s.pack k = some p) :
    (s.packByNumber p.number).isSome = true :=
  packByNumber_isSome_iff.2 ⟨k, by simp [hk]⟩

theorem openPack_isSome_iff {s : State} : s.openPack.isSome = true ↔ ∃ k p, s.pack k = some p ∧ p.state = .opened := by
  simp only [State.openPack, List.isSome_findSome?, List.any_eq_true, mem_allPackSlots, true_and]
  refine exists_congr fun k => ?_
  cases s.pack k <;> simp [apply_ite Option.isSome]

/-- With no OPEN pack found, no pack is OPEN. -/
theorem openPack_eq_none {s : State} (h : s.openPack = none) {k : Fin 16} {p : Pack} (hp : s.pack k = some p) :
    p.state ≠ .opened := by
  intro ho
  have := openPack_isSome_iff.2 ⟨k, p, hp, ho⟩
  simp [h] at this

theorem chargeById_eq_none {s : State} {id : Nat} (h0 : id ≠ 0) (h : s.chargeById id = none) {k : Fin 8} {ch : Charge}
    (hc : s.charge k = some ch) : ch.id ≠ id := by
  intro he
  have hf : (s.findCharge id).isSome = true := by
    rw [State.findCharge, if_neg h0, List.find?_isSome]
    exact ⟨k, mem_allChargeSlots k, by simp [hc, he]⟩
  obtain ⟨j, hj⟩ := Option.isSome_iff_exists.1 hf
  have hp : (s.charge j).isNone = true := by simpa [State.chargeById, hj] using h
  rw [State.findCharge, if_neg h0] at hj
  have := List.find?_some hj
  rw [Option.isNone_iff_eq_none] at hp
  simp [hp] at this

/-! ### Numbers and records, each the other's -/

/-- Under distinct IDs a request finds exactly the charge that carries the ID. -/
theorem chargeById_iff {s : State} (hs : s.IdsDistinct) {n : Nat} {k : Fin 8} {ch : Charge} :
    s.chargeById n = some (k, ch) ↔ s.charge k = some ch ∧ ch.id = n := by
  obtain ⟨-, hrange, hinj⟩ := hs
  refine ⟨fun h => ⟨(chargeById_some h).1, (chargeById_some h).2.1⟩, fun ⟨hk, hid⟩ => ?_⟩
  have h0 : n ≠ 0 := by
    have := (hrange k ch hk).1
    omega
  cases hf : s.chargeById n with
  | none => exact absurd hid (chargeById_eq_none h0 hf hk)
  | some r =>
    obtain ⟨j, x⟩ := r
    obtain ⟨hj, hx, -⟩ := chargeById_some hf
    obtain rfl := hinj j k x hj ch hk (hx.trans hid.symm)
    rw [hk] at hj
    rw [Option.some.inj hj]

/-- Under distinct pack numbers a request finds exactly the pack that carries the number. -/
theorem packByNumber_iff {s : State} (hs : s.PackNumbersDistinct) {n : Nat} {k : Fin 16} {p : Pack} :
    s.packByNumber n = some (k, p) ↔ s.pack k = some p ∧ p.number = n := by
  obtain ⟨-, -, hinj⟩ := hs
  refine ⟨packByNumber_some, fun ⟨hk, hn⟩ => ?_⟩
  obtain ⟨⟨j, q⟩, hf⟩ := Option.isSome_iff_exists.1 (hn ▸ packByNumber_number hk)
  obtain ⟨hj, hq⟩ := packByNumber_some hf
  obtain rfl := hinj j k q hj p hk (hq.trans hn.symm)
  rw [hk] at hj
  rw [hf, Option.some.inj hj]

/-- The OPEN pack, where one is OPEN (R126). -/
theorem openPack_iff {s : State} (hs : s.PacksHeld) {k : Fin 16} {p : Pack} :
    s.openPack = some (k, p) ↔ s.pack k = some p ∧ p.state = .opened := by
  refine ⟨openPack_some, fun ⟨hk, ho⟩ => ?_⟩
  obtain ⟨⟨j, q⟩, hf⟩ := Option.isSome_iff_exists.1 (openPack_isSome_iff.2 ⟨k, p, hk, ho⟩)
  obtain ⟨hj, hq⟩ := openPack_some hf
  obtain rfl := hs.1 j k q hj p hk hq ho
  rw [hk] at hj
  rw [hf, Option.some.inj hj]

/-! ### The numbers given -/

/-- With a FREE slot the ID search of R2 ends at the first candidate that is not present. -/
theorem assignedId_search {s : State} (h1 : 1 ≤ s.chargeCounter) (h2 : s.chargeCounter ≤ 65535)
    (hfree : ∃ k, s.charge k = none) :
    ∃ n < 8, s.assignedId = nextNumber^[n] s.chargeCounter ∧ s.idPresent (nextNumber^[n] s.chargeCounter) = false ∧
      ∀ m < n, s.idPresent (nextNumber^[m] s.chargeCounter) = true :=
  firstAbsent_of_free (by omega) (fun _ => idPresent_iff) h1 h2 (hfree.imp fun k hk => by simp [hk])

/-- With a FREE record the number search of R128 ends at the first candidate that is not present. -/
theorem assignedPack_search {s : State} (h1 : 1 ≤ s.packCounter) (h2 : s.packCounter ≤ 65535)
    (hfree : ∃ k, s.pack k = none) :
    ∃ n < 16, s.assignedPack = nextNumber^[n] s.packCounter ∧
      (s.packByNumber (nextNumber^[n] s.packCounter)).isSome = false ∧
      ∀ m < n, (s.packByNumber (nextNumber^[m] s.packCounter)).isSome = true :=
  firstAbsent_of_free (by omega) (fun _ => packByNumber_isSome_iff) h1 h2 (hfree.imp fun k hk => by simp [hk])

/-- A candidate of a search lies in the range of the numbers. -/
theorem nextNumber_iterate_mem_range {n : Nat} (h1 : 1 ≤ n) (h2 : n ≤ 65535) (m : Nat) :
    1 ≤ nextNumber^[m] n ∧ nextNumber^[m] n ≤ 65535 := by
  rw [nextNumber_iterate h1 h2]
  omega

/-- The ID given with a FREE slot is in range and no charge's. -/
theorem assignedId_fresh {s : State} (h1 : 1 ≤ s.chargeCounter) (h2 : s.chargeCounter ≤ 65535)
    (hfree : ∃ k, s.charge k = none) :
    (∀ k, ∀ ch ∈ s.charge k, ch.id ≠ s.assignedId) ∧ 1 ≤ s.assignedId ∧ s.assignedId ≤ 65535 := by
  obtain ⟨n, -, he, ha, -⟩ := assignedId_search h1 h2 hfree
  rw [he]
  refine ⟨fun k ch hk hid => ?_, nextNumber_iterate_mem_range h1 h2 n⟩
  simpa [ha, hid] using idPresent_id hk

/-- The pack number given with a FREE record is in range and no pack's. -/
theorem assignedPack_fresh {s : State} (h1 : 1 ≤ s.packCounter) (h2 : s.packCounter ≤ 65535)
    (hfree : ∃ k, s.pack k = none) :
    (∀ k, ∀ p ∈ s.pack k, p.number ≠ s.assignedPack) ∧ 1 ≤ s.assignedPack ∧ s.assignedPack ≤ 65535 := by
  obtain ⟨n, -, he, ha, -⟩ := assignedPack_search h1 h2 hfree
  rw [he]
  refine ⟨fun k p hk hn => ?_, nextNumber_iterate_mem_range h1 h2 n⟩
  simpa [ha, hn] using packByNumber_number hk

/-- Settles O11: the searches are bounded by counting records, and a search by number finds the one record that carries it. -/
theorem numbersAssigned : Obligations.NumbersAssigned := by
  refine ⟨fun s n k ch hs => chargeById_iff hs, fun s n k p hs => packByNumber_iff hs, fun s k p hs => openPack_iff hs,
    fun s h1 h2 hfree => ?_, fun s h1 h2 hfree => ?_⟩
  · obtain ⟨n, hn, he, -, hp⟩ := assignedId_search h1 h2 hfree
    exact ⟨n, hn, he, hp, assignedId_fresh h1 h2 hfree⟩
  · obtain ⟨n, hn, he, -, hp⟩ := assignedPack_search h1 h2 hfree
    exact ⟨n, hn, he, hp, assignedPack_fresh h1 h2 hfree⟩

end Sys2Proof.Machine
end

-- ==== Proofs: the charge table's requests ====
section
/-! NEW-CHARGE and DELETE-CHARGE (R9, R11): each owner's answer case by case, passed through the port. -/

namespace Sys2Proof.Machine

/-- A byte that carries an index is the byte of that index. -/
theorem u8_val_of_toNat {n : Nat} {b : Byte} {i : Fin n} (h : b.toNat = i.val) : u8 i.val = [b] := by
  simp [u8, ← h]

/-! ### NEW-CHARGE -/

theorem freeChargeSlot_eq_none {s : State} : s.freeChargeSlot = none ↔ ∀ k, s.charge k ≠ none := by
  simp [State.freeChargeSlot, List.find?_eq_none, mem_allChargeSlots]

theorem freeChargeSlot_free {s : State} {k : Fin 8} (h : s.freeChargeSlot = some k) : s.charge k = none := by
  simpa using List.find?_some h

/-- The charge slots of a search that passes every slot before `k` and stops there. -/
theorem find_allChargeSlots {test : Fin 8 → Bool} {k : Fin 8} (hk : test k = true) (hlt : ∀ j, j < k → test j = false) :
    allChargeSlots.find? test = some k := by
  have hsorted : allChargeSlots.Pairwise (· < ·) := by decide
  obtain ⟨before, after, hsplit⟩ := List.append_of_mem (mem_allChargeSlots k)
  rw [hsplit] at hsorted ⊢
  have hb : ∀ j ∈ before, j < k := fun j hj =>
    (List.pairwise_append.1 hsorted).2.2 j hj k List.mem_cons_self
  rw [List.find?_append, List.find?_eq_none.2 fun j hj => by simp [hlt j (hb j hj)]]
  simp [hk]

/-- The lowest-numbered FREE slot (R1). -/
theorem freeChargeSlot_eq_some {s : State} {k : Fin 8} (hk : s.charge k = none) (hlt : ∀ j, j < k → s.charge j ≠ none) :
    s.freeChargeSlot = some k :=
  find_allChargeSlots (by simp [hk]) fun j hj => by simpa [Option.isSome_iff_ne_none] using hlt j hj

theorem parentPasses_iff {s : State} {parent : Nat} : s.parentPasses parent = true ↔
    ∃ j ch, s.chargeById parent = some (j, ch) ∧ (ch.state = .onLine ∨ ch.state = .planed) ∧ 1 ≤ ch.wet := by
  unfold State.parentPasses
  cases s.chargeById parent with
  | none => simp
  | some r => simp [Prod.ext_iff]

/-- NEW-CHARGE with a field out of range is refused before anything is read (R9). -/
theorem newChargeOwner_outOfRange {sp sc d1 d0 p1 p0 : Byte} {rest : List Byte} {s : State}
    (h : 8 ≤ sp.toNat ∨ 16 ≤ sc.toNat ∨ nat16 d1 d0 < 1 ∨ 20000 < nat16 d1 d0) :
    newChargeOwner (sp :: sc :: d1 :: d0 :: p1 :: p0 :: rest) s = refuse .outOfRange s := by
  simp only [newChargeOwner]
  split
  · rename_i hsp hsc
    have hsp := finOf_eq_some.1 hsp
    have hsc := finOf_eq_some.1 hsc
    rw [if_neg]
    simp only [Bool.and_eq_true, decide_eq_true_eq]
    omega
  · rfl

/-- NEW-CHARGE with its fields in range comes to the tests from the second on (R9). -/
theorem newChargeOwner_inRange {sp sc d1 d0 p1 p0 : Byte} {rest : List Byte} {s : State} {species : Fin 8} {schedule : Fin 16}
    (hsp : sp.toNat = species.val) (hsc : sc.toNat = schedule.val) (h1 : 1 ≤ nat16 d1 d0) (h2 : nat16 d1 d0 ≤ 20000) :
    newChargeOwner (sp :: sc :: d1 :: d0 :: p1 :: p0 :: rest) s =
      createCharge species schedule (nat16 d1 d0) (nat16 p1 p0) s := by
  simp [newChargeOwner, finOf_eq_some.2 hsp, finOf_eq_some.2 hsc, h1, h2]

/-- Settles O10: each test of R9 decides its branch of the owner, and the port answers what the owner does. -/
theorem newChargeAnswers : Obligations.NewChargeAnswers := by
  intro tag sp sc d1 d0 p1 p0 rest s ht run answer
  have hrun : ∀ {u a}, newChargeOwner (sp :: sc :: d1 :: d0 :: p1 :: p0 :: rest) s = some (u, a) →
      run = .next (u.respond .yard 0x0F#8 tag a) := fun ho => request_taken ht rfl ho
  refine ⟨fun h => hrun (newChargeOwner_outOfRange h), fun species schedule hsp hsc h1 h2 => ?_⟩
  rw [newChargeOwner_inRange hsp hsc h1 h2] at hrun
  unfold createCharge at hrun
  refine ⟨fun hfull => hrun ?_, fun k hk hlt => ?_⟩
  · simp only [freeChargeSlot_eq_none.2 hfull]; rfl
  simp only [freeChargeSlot_eq_some hk hlt] at hrun
  refine ⟨fun hnone => hrun ?_, fun hsome hnone => ?_, fun sch curve hsch hcurve => ?_⟩
  · simp only [hnone, refuseWith, u8_val_of_toNat hsc]; rfl
  · obtain ⟨sch, hsch⟩ := Option.ne_none_iff_exists'.1 hsome
    refine hrun ?_
    simp only [hsch, hnone, refuseWith, u8_val_of_toNat hsp]; rfl
  · simp only [hsch, hcurve] at hrun
    refine ⟨fun h0 hnot => hrun ?_, fun hpass => hrun ?_⟩
    · have : s.parentPasses (nat16 p1 p0) = false := by
        rw [Bool.eq_false_iff]
        intro hp
        obtain ⟨j, ch, hf, hch⟩ := parentPasses_iff.1 hp
        exact hnot j ch hf hch
      rw [if_pos (by simp [h0, this])]; rfl
    · have : ¬(nat16 p1 p0 ≠ 0 && !s.parentPasses (nat16 p1 p0)) := by
        obtain h0 | hp := hpass
        · simp [h0]
        · simp [parentPasses_iff.2 hp]
      rw [if_neg this]
      rfl

/-! ### DELETE-CHARGE -/

theorem chargeById_none_of_absent {s : State} {id : Nat} (h : id = 0 ∨ ∀ k, ∀ ch ∈ s.charge k, ch.id ≠ id) :
    s.chargeById id = none := by
  cases hf : s.chargeById id with
  | none => rfl
  | some r =>
    obtain ⟨hk, hid, h0⟩ := chargeById_some (k := r.1) (ch := r.2) hf
    obtain h | h := h
    · exact absurd h h0
    · exact absurd hid (h _ _ hk)

/-- Settles O12: the owner's three answers, each passed through the port. -/
theorem deleteChargeAnswers : Obligations.DeleteChargeAnswers := by
  intro tag hi lo rest s ht run
  have hrun : ∀ {u a}, deleteChargeOwner (hi :: lo :: rest) s = some (u, a) →
      run = .next (u.respond .yard 0x10#8 tag a) := fun ho => request_taken ht rfl ho
  unfold deleteChargeOwner at hrun
  refine ⟨fun h => hrun ?_, fun k ch hf => ?_⟩
  · simp only [chargeById_none_of_absent h]; rfl
  · simp only [hf] at hrun
    refine ⟨fun h => hrun ?_, fun ha hp => hrun ?_⟩
    · rw [if_pos (by simpa using h)]; rfl
    · rw [if_neg (by simp [ha, hp])]; rfl

end Sys2Proof.Machine
end

-- ==== Proofs: what a command can do to the linked records ====
section
/-! Every command is a chain of a few kinds of change to the records that links, counts and numbers are about. They are named
here once; what a step keeps is then shown for each kind and not for each command. -/

namespace Sys2Proof.Machine

/-! ### Reading any record after one is replaced -/

theorem chamber_setChamber (s : State) (c d : ChamberNo) (x : Chamber) :
    (s.setChamber c x).chamber d = if c = d then x else s.chamber d := by
  split
  · rename_i h; subst h; simp
  · rename_i h; exact State.chamber_setChamber_other s x h

theorem monitor_setMonitor (s : State) (c d : ChamberNo) (x : DoorMonitor) :
    (s.setMonitor c x).monitor d = if c = d then x else s.monitor d := by
  split
  · rename_i h; subst h; simp
  · rename_i h; exact State.monitor_setMonitor_other s x h

theorem charge_setCharge (s : State) (k j : Fin 8) (x : Option Charge) :
    (s.setCharge k x).charge j = if k = j then x else s.charge j := by
  split
  · rename_i h; subst h; simp
  · rename_i h; exact State.charge_setCharge_other s x h

theorem charge_modCharge (s : State) (k j : Fin 8) (f : Charge → Charge) :
    (s.modCharge k f).charge j = (s.charge j).map fun ch => if k = j then f ch else ch := by
  rw [State.modCharge, charge_setCharge]
  split
  · rename_i h; subst h; rfl
  · simp

theorem charge_modBound (s : State) (c : ChamberNo) (j : Fin 8) (f : Charge → Charge) :
    (s.modBound c f).charge j = (s.charge j).map fun ch => if (s.chamber c).chargeSlot = some j then f ch else ch := by
  cases h : (s.chamber c).chargeSlot with
  | none => simp [modBound_none f h]
  | some k => simp [modBound_some f h, charge_modCharge]

theorem pack_setPack (s : State) (k j : Fin 16) (x : Option Pack) :
    (s.setPack k x).pack j = if k = j then x else s.pack j := by
  split
  · rename_i h; subst h; simp
  · rename_i h; exact State.pack_setPack_other s x h

/-- The charges after a change of one: those that stood there, the one in the slot changed. -/
theorem mem_charge_modCharge {s : State} {k j : Fin 8} {f : Charge → Charge} {b : Charge} :
    b ∈ (s.modCharge k f).charge j ↔ ∃ a, s.charge j = some a ∧ b = if k = j then f a else a := by
  rw [charge_modCharge, Option.mem_map]
  exact exists_congr fun a => and_congr_right fun _ => eq_comm

/-- A view of the charges that the change of one does not show in stands. -/
theorem charge_modCharge_map {α : Type} (s : State) (k j : Fin 8) {f : Charge → Charge} {g : Charge → α}
    (hf : ∀ ch, g (f ch) = g ch) : ((s.modCharge k f).charge j).map g = (s.charge j).map g := by
  rw [charge_modCharge, Option.map_map]
  congr 1
  funext ch
  simp only [Function.comp]
  split
  · exact hf ch
  · rfl

/-- The schedule of the charge bound to a chamber (R3, R8). -/
def State.scheduleAt (s : State) (c : ChamberNo) : Option Schedule := (s.bound c).bind fun kc => s.scheduleOf kc.2

theorem scheduleAt_eq_some {s : State} {c : ChamberNo} {sch : Schedule} : s.scheduleAt c = some sch ↔
    ∃ k ch, (s.chamber c).chargeSlot = some k ∧ s.charge k = some ch ∧ s.schedules[ch.schedule] = some sch := by
  simp only [State.scheduleAt, Option.bind_eq_some_iff, Prod.exists, bound_eq_some, and_assoc]
  rfl

/-! ### Changes that no link is about -/

/-- A charge record without the fields that no link, count or number is about. -/
def Charge.core (ch : Charge) : Charge :=
  { ch with lastStats := none, doorOpenings := 0, doorSeconds := 0, unmeasured := 0, firstPack := none, lastPack := none
            packsClosed := 0, marks := 0 }

/-- A change of what no link, count or number is about: each chamber keeps its state, its charge slot and its step, each charge its
core, and draw, FIFO, packs, schedules and species stand. -/
structure State.Kept (s t : State) : Prop where
  pending : t.pending = s.pending := by rfl
  schedules : t.schedules = s.schedules := by rfl
  species : t.species = s.species := by rfl
  draw : t.draw = s.draw := by rfl
  fifo : t.fifo = s.fifo := by rfl
  packs : t.packs = s.packs := by rfl
  chargeCounter : t.chargeCounter = s.chargeCounter := by rfl
  packCounter : t.packCounter = s.packCounter := by rfl
  chambers : ∀ c, (t.chamber c).state = (s.chamber c).state ∧ (t.chamber c).chargeSlot = (s.chamber c).chargeSlot ∧
    (t.chamber c).stepIndex = (s.chamber c).stepIndex := by exact fun _ => ⟨rfl, rfl, rfl⟩
  fields : ∀ c, (s.chamber c).FieldsPresent (s.monitor c) → (t.chamber c).FieldsPresent (t.monitor c) := by
    exact fun _ h => h
  charges : ∀ k, (t.charge k).map Charge.core = (s.charge k).map Charge.core := by exact fun _ => rfl

namespace State.Kept

theorem refl (s : State) : s.Kept s := {}

theorem trans {s t u : State} (h : s.Kept t) (g : t.Kept u) : s.Kept u where
  pending := g.pending.trans h.pending
  schedules := g.schedules.trans h.schedules
  species := g.species.trans h.species
  draw := g.draw.trans h.draw
  fifo := g.fifo.trans h.fifo
  packs := g.packs.trans h.packs
  chargeCounter := g.chargeCounter.trans h.chargeCounter
  packCounter := g.packCounter.trans h.packCounter
  chambers c := by
    obtain ⟨h1, h2, h3⟩ := h.chambers c
    obtain ⟨g1, g2, g3⟩ := g.chambers c
    exact ⟨g1.trans h1, g2.trans h2, g3.trans h3⟩
  fields c hc := g.fields c (h.fields c hc)
  charges k := (g.charges k).trans (h.charges k)

variable {s t : State}

/-- A charge after the change has a charge with the same core before it. -/
theorem charge_before (h : s.Kept t) {k : Fin 8} {b : Charge} (hb : t.charge k = some b) :
    ∃ a, s.charge k = some a ∧ b.core = a.core := by
  have := h.charges k
  rw [hb, Option.map_some, eq_comm, Option.map_eq_some_iff] at this
  exact this.imp fun a ha => ⟨ha.1, ha.2.symm⟩

/-- A charge before the change has a charge with the same core after it. -/
theorem charge_after (h : s.Kept t) {k : Fin 8} {a : Charge} (ha : s.charge k = some a) :
    ∃ b, t.charge k = some b ∧ b.core = a.core := by
  have := h.charges k
  rw [ha, Option.map_some, Option.map_eq_some_iff] at this
  exact this

theorem pack (h : s.Kept t) (k : Fin 16) : t.pack k = s.pack k := by rw [State.pack, h.packs, State.pack]

end State.Kept

theorem kept_setPort (s : State) (p : Port) (x : PortState) : s.Kept (s.setPort p x) := {}
theorem kept_setRx (s : State) (p : Port) (rx : PortRx) : s.Kept (s.setRx p rx) := {}
theorem kept_respond (s : State) (p : Port) (code tag : Byte) (a : Answer) : s.Kept (s.respond p code tag a) := {}
theorem kept_raise (s : State) (n : Notice) : s.Kept (s.raise n) := {}
theorem kept_offer (s : State) (c : ChamberNo) (ev : Event) : s.Kept (s.offer c ev) := {}
theorem kept_setBank (s : State) (c : ChamberNo) (b : ProbeBank) : s.Kept (s.setBank c b) := {}

theorem kept_checkBlocked (s : State) : s.Kept s.checkBlocked := by
  obtain h | ⟨-, -, h⟩ := checkBlocked_cases s
  · rw [h]; exact .refl s
  · rw [h]; exact {}

/-- A chamber record changed in fields that no link is about. -/
theorem kept_setChamber {s : State} {c : ChamberNo} {x : Chamber} (hs : x.state = (s.chamber c).state)
    (hk : x.chargeSlot = (s.chamber c).chargeSlot) (hi : x.stepIndex = (s.chamber c).stepIndex)
    (hf : (s.chamber c).FieldsPresent (s.monitor c) → x.FieldsPresent (s.monitor c)) : s.Kept (s.setChamber c x) where
  chambers d := by
    rw [chamber_setChamber]
    split
    · rename_i h; subst h; exact ⟨hs, hk, hi⟩
    · exact ⟨rfl, rfl, rfl⟩
  fields d := by
    rw [chamber_setChamber]
    split
    · rename_i h; subst h; exact hf
    · exact id

/-- A door monitor changed with its hold kept present or absent. -/
theorem kept_setMonitor {s : State} {c : ChamberNo} {d : DoorMonitor} (h : d.hold.isSome = (s.monitor c).hold.isSome) :
    s.Kept (s.setMonitor c d) where
  fields e := by
    rw [monitor_setMonitor]
    split
    · rename_i he; subst he; rw [State.setMonitor_chamber, Chamber.FieldsPresent, Chamber.FieldsPresent, h]; exact id
    · exact id

/-- A charge changed in fields that no link is about. -/
theorem kept_modCharge (s : State) (k : Fin 8) {f : Charge → Charge} (hf : ∀ ch, (f ch).core = ch.core) :
    s.Kept (s.modCharge k f) where
  charges j := charge_modCharge_map s k j hf

/-- A bound charge changed in fields that no link is about. -/
theorem kept_modBound (s : State) (c : ChamberNo) {f : Charge → Charge} (hf : ∀ ch, (f ch).core = ch.core) :
    s.Kept (s.modBound c f) := by
  cases h : (s.chamber c).chargeSlot with
  | none => rw [modBound_none f h]; exact .refl s
  | some k => rw [modBound_some f h]; exact kept_modCharge s k hf

/-! ### A chamber moving along its run -/

/-- R4, R139: the kiln history a charge has while it is in, or bound to a chamber in, these states. -/
def Charge.HistoryIn (st : ChamberState) (ch : Charge) : Prop :=
  (ch.state.pastKiln → ch.finalStats.isSome ∧ ch.endTime.isSome) ∧
  (ch.state.pastKiln ∨ ch.state = .inKiln → ch.startTime.isSome) ∧
  (st = .cooling → ch.finalStats.isSome)

/-- The core of a charge record without what a run writes into it. -/
def Charge.runCore (ch : Charge) : Charge :=
  { ch.core with state := .assigned, startTime := none, endTime := none, finalStats := none }

/-- A chamber with a charge bound moves along its run, its record, its door hold and its charge together: the binding stands, the
charge comes to the state that goes with the chamber's, its history keeps up, and the step index still names a step. -/
structure State.Ran (c : ChamberNo) (f : Charge → Charge) (s t : State) : Prop where
  pending : t.pending = s.pending := by rfl
  schedules : t.schedules = s.schedules := by rfl
  species : t.species = s.species := by rfl
  draw : t.draw = s.draw := by rfl
  fifo : t.fifo = s.fifo := by rfl
  packs : t.packs = s.packs := by rfl
  chargeCounter : t.chargeCounter = s.chargeCounter := by rfl
  packCounter : t.packCounter = s.packCounter := by rfl
  others : ∀ d, c ≠ d → t.chamber d = s.chamber d ∧ t.monitor d = s.monitor d
  slot : (t.chamber c).chargeSlot = (s.chamber c).chargeSlot
  charges : ∀ k, t.charge k = (s.charge k).map fun ch => if (s.chamber c).chargeSlot = some k then f ch else ch
  fields : (s.chamber c).FieldsPresent (s.monitor c) → (t.chamber c).FieldsPresent (t.monitor c)
  onStep : (t.chamber c).state.counts → (s.chamber c).state.counts ∧ (t.chamber c).stepIndex = (s.chamber c).stepIndex ∨
    ∃ sch i, s.scheduleAt c = some sch ∧ (t.chamber c).stepIndex = some i ∧ i < sch.steps.length
  underway : (t.chamber c).state.counts = true ∨ (t.chamber c).state = .complete
  core : ∀ ch, (f ch).runCore = ch.runCore
  binds : ∀ ch, (s.chamber c).state.bindsIn = some ch.state → (t.chamber c).state.bindsIn = some (f ch).state
  holds : ∀ ch, (s.chamber c).state.bindsIn = some ch.state → (f ch).state.holdsRecords = true → ch.state.holdsRecords = true
  history : ∀ ch, (s.chamber c).state.bindsIn = some ch.state → ch.HistoryIn (s.chamber c).state →
    (f ch).HistoryIn (t.chamber c).state

/-! ### The kinds of change -/

/-- A pack whose record changes: it stays in its slot with its number, OPEN or not as it was and with the same label and charge
slot, or it becomes one that is closed, with a label and no charge slot (R131). -/
def Pack.Kept (p q : Pack) : Prop :=
  q.number = p.number ∧
    ((q.state = .opened ↔ p.state = .opened) ∧ q.label = p.label ∧ q.chargeSlot = p.chargeSlot ∨
      q.state ≠ .opened ∧ q.label.isSome ∧ q.chargeSlot = none)

/-- The working tables emptied (R170, R172): every chamber EMPTY, no charge, no pack, no draw, no FIFO record. -/
structure State.Emptied (s t : State) : Prop where
  pending : t.pending = s.pending := by rfl
  schedules : ∀ n : Fin 16, t.schedules[n] = s.schedules[n] ∨ t.schedules[n] = none
  species : ∀ i : Fin 8, t.species[i] = s.species[i] ∨ t.species[i] = none
  draw : t.draw = none := by rfl
  fifo : t.fifo = [] := by rfl
  chargeCounter : t.chargeCounter = s.chargeCounter ∨ t.chargeCounter = 1
  packCounter : t.packCounter = s.packCounter ∨ t.packCounter = 1
  chambers : ∀ c, (t.chamber c).state = .empty ∧ (t.chamber c).FieldsPresent (t.monitor c)
  charges : ∀ k, t.charge k = none
  packs : ∀ k, t.pack k = none

/-- The kinds of change to the linked records, each with what the command has tested. The grading of a board is the one kind that
is not among them (`State.Graded`). `held` says that packs were held as R126 gives when the command began: only then does the draw
end leave no pack OPEN. -/
inductive State.Change (held : Prop) : State → State → Prop
  | kept {s t : State} (h : s.Kept t) : Change held s t
  | ran {s t : State} {c : ChamberNo} {f : Charge → Charge} (h : s.Ran c f t) : Change held s t
  /-- LOAD (R64). -/
  | bound {s : State} {c : ChamberNo} {k : Fin 8} {ch : Charge} (hx : (s.chamber c).state = .empty)
      (hk : s.charge k = some ch) (ha : ch.state = .assigned) : Change held s (s.bind c k)
  /-- RELEASE (R69). -/
  | unbound {s : State} {c : ChamberNo} {k : Fin 8} {ch : Charge} {st : ChargeState}
      (hst : (s.chamber c).state.releasesTo = some st) (hk : s.bound c = some (k, ch)) : Change held s (s.unbind c k st)
  /-- NEW-CHARGE (R9). -/
  | created {s : State} {k : Fin 8} {species : Fin 8} {schedule : Fin 16} {sch : Schedule} {curve : Species}
      {declared parent : Nat} (hk : s.charge k = none) (hsch : s.schedules[schedule] = some sch)
      (hsp : s.species[species] = some curve) :
      Change held s { s.setCharge k (some (Charge.created s.assignedId species schedule sch declared parent)) with
        chargeCounter := nextNumber s.assignedId }
  /-- DELETE-CHARGE (R11). -/
  | deleted {s : State} {k : Fin 8} {ch : Charge} (hk : s.charge k = some ch)
      (hst : ch.state = .assigned ∨ ch.state = .planed) : Change held s (s.setCharge k none)
  /-- DRAW (R118). -/
  | drawn {s : State} {k : Fin 8} {ch : Charge} {auto : Bool} (hd : s.draw = none) (hk : s.charge k = some ch)
      (hr : ch.state = .released) :
      Change held s { s.modCharge k (fun ch => { ch with state := .onLine, remaining := some ch.declared }) with
        draw := some ⟨false, k, auto⟩ }
  /-- END-DRAW and auto-end (R119, R110). -/
  | ending {s : State} {d : Draw} (hd : s.draw = some d) : Change held s { s with draw := some { d with ending := true } }
  /-- The draw end (R121), its pack closed before. -/
  | drawEnded {s : State} {d : Draw} (hd : s.draw = some d) (hf : ∀ b ∈ s.fifo, b.slot ≠ d.slot)
      (ho : held → ∀ k p, s.pack k = some p → p.state ≠ .opened) :
      Change held s { s.modCharge d.slot Charge.planed with draw := none }
  /-- A pack opened by a tally move (R128). -/
  | packOpened {s : State} {k : Fin 16} {b : BoardRecord} {ch : Charge} (ho : s.openPack = none) (hk : s.pack k = none)
      (hb : b ∈ s.fifo) :
      Change held s { s.setPack k (some (Pack.begun s.assignedPack b.slot ch s.plan s.stamp)) with
        packCounter := nextNumber s.assignedPack }
  | repacked {s : State} {k : Fin 16} {p q : Pack} (hk : s.pack k = some p) (h : p.Kept q) :
      Change held s (s.setPack k (some q))
  /-- ACK-LABEL (R145). -/
  | freed {s : State} {k : Fin 16} : Change held s (s.setPack k none)
  /-- A board leaves the FIFO and is counted as packed (R129). -/
  | moved {s : State} {b : BoardRecord} {rest : List BoardRecord} (hf : s.fifo = b :: rest) :
      Change held s { s.modCharge b.slot (Charge.addPacked b) with fifo := rest }
  /-- COMMIT-SCHEDULE and CLEAR-SCHEDULE (R25, R26). -/
  | scheduled {s : State} {n : Fin 16} {x : Option Schedule} (hu : s.scheduleInUse n = false) (hv : ∀ sch ∈ x, sch.Valid) :
      Change held s { s with schedules := s.schedules.set n x }
  /-- WRITE on SPECIES (R29). -/
  | speciesWritten {s : State} {i : Fin 8} {sp : Species} (hv : sp.Valid) :
      Change held s { s with species := s.species.set i (some sp) }
  | emptied {s t : State} (h : s.Emptied t) : Change held s t

/-- Changes one after another. -/
abbrev State.Changes (held : Prop) : State → State → Prop := Relation.ReflTransGen (State.Change held)

/-- A board of an ACTIVE draw counted and disposed of (R107 to R110), before auto-end: the drawn charge's counts grow, and a packed
board joins the FIFO. -/
structure State.Graded (s t : State) (d : Draw) (rem g : Nat) (v : Disposition) : Prop where
  pending : t.pending = s.pending := by rfl
  chambers : t.chambers = s.chambers := by rfl
  doors : t.doors = s.doors := by rfl
  schedules : t.schedules = s.schedules := by rfl
  species : t.species = s.species := by rfl
  draw : t.draw = s.draw := by rfl
  packs : t.packs = s.packs := by rfl
  chargeCounter : t.chargeCounter = s.chargeCounter := by rfl
  packCounter : t.packCounter = s.packCounter := by rfl
  charges : t.charges = (s.modCharge d.slot fun ch => (ch.countBoard g rem).countDisposition v).charges
  fifo : ∃ r : List BoardRecord, t.fifo = s.fifo ++ r ∧ (∀ b ∈ r, b.slot = d.slot) ∧ r.length = if v = .pack then 1 else 0
  drawn : s.draw = some d
  remaining : ∃ ch, s.charge d.slot = some ch ∧ ch.remaining = some rem
  gap : g ≤ 15

/-- Everything a command can do to the linked records: changes one after another, or one board graded and changes after it. -/
inductive State.Moves (s t : State) : Prop
  | changes (h : State.Changes s.PacksHeld s t)
  | grades {u w : State} {d : Draw} {rem g : Nat} {v : Disposition} (h : s.Kept u) (hg : u.Graded w d rem g v)
      (h' : State.Changes s.PacksHeld w t)

end Sys2Proof.Machine
end

-- ==== Proofs: every change keeps the links ====
section
/-! R8, R61, R117: each kind of change leaves every binding and the drawn link whole. -/

namespace Sys2Proof.Machine

/-! ### What the changed records are -/

theorem chamber_bind (s : State) (c d : ChamberNo) (k : Fin 8) :
    (s.bind c k).chamber d = if c = d then Chamber.bindTo k (s.chamber c) else s.chamber d :=
  chamber_setChamber _ c d _

theorem charge_bind (s : State) (c : ChamberNo) (k j : Fin 8) : (s.bind c k).charge j =
    (s.charge j).map fun ch => if k = j then { ch with state := .loaded, chamber := some c } else ch :=
  charge_modCharge s k j _

theorem chamber_unbind (s : State) (c d : ChamberNo) (k : Fin 8) (st : ChargeState) : (s.unbind c k st).chamber d =
    if c = d then { s.chamber c with state := .empty, chargeSlot := none, stepIndex := none } else s.chamber d :=
  chamber_setChamber _ c d _

theorem charge_unbind (s : State) (c : ChamberNo) (k j : Fin 8) (st : ChargeState) : (s.unbind c k st).charge j =
    (s.charge j).map fun ch => if k = j then { ch with state := st, chamber := none } else ch :=
  charge_modCharge s k j _

/-- The chambers RELEASE takes a charge from (R12, R15). -/
theorem releasesTo_cases {x : ChamberState} {st : ChargeState} (h : x.releasesTo = some st) :
    x = .loaded ∧ st = .assigned ∨ x = .complete ∧ st = .released := by
  cases x <;> simp_all [ChamberState.releasesTo]

/-- The draw end makes the charge PLANED and may mark it (R121). -/
theorem planed_eq (ch : Charge) : ∃ m, ch.planed = { ch with state := .planed, marks := m } := by
  unfold Charge.planed
  split
  · split
    · exact ⟨_, rfl⟩
    · exact ⟨_, rfl⟩
  · exact ⟨_, rfl⟩

@[simp] theorem planed_state (ch : Charge) : ch.planed.state = .planed := by
  obtain ⟨m, hm⟩ := planed_eq ch
  rw [hm]

@[simp] theorem planed_id (ch : Charge) : ch.planed.id = ch.id := by
  obtain ⟨m, hm⟩ := planed_eq ch
  rw [hm]

@[simp] theorem planed_species (ch : Charge) : ch.planed.species = ch.species := by
  obtain ⟨m, hm⟩ := planed_eq ch
  rw [hm]

@[simp] theorem planed_schedule (ch : Charge) : ch.planed.schedule = ch.schedule := by
  obtain ⟨m, hm⟩ := planed_eq ch
  rw [hm]

@[simp] theorem planed_chamber (ch : Charge) : ch.planed.chamber = ch.chamber := by
  obtain ⟨m, hm⟩ := planed_eq ch
  rw [hm]

@[simp] theorem planed_startTime (ch : Charge) : ch.planed.startTime = ch.startTime := by
  obtain ⟨m, hm⟩ := planed_eq ch
  rw [hm]

@[simp] theorem planed_endTime (ch : Charge) : ch.planed.endTime = ch.endTime := by
  obtain ⟨m, hm⟩ := planed_eq ch
  rw [hm]

@[simp] theorem planed_finalStats (ch : Charge) : ch.planed.finalStats = ch.finalStats := by
  obtain ⟨m, hm⟩ := planed_eq ch
  rw [hm]

@[simp] theorem planed_remaining (ch : Charge) : ch.planed.remaining = ch.remaining := by
  obtain ⟨m, hm⟩ := planed_eq ch
  rw [hm]

/-! ### Optional fields -/

theorem State.Change.fieldsPresent {held : Prop} {s t : State} (h : s.Change held t) (hs : s.FieldsPresent) : t.FieldsPresent := by
  cases h with
  | kept h => exact fun c => h.fields c (hs c)
  | @ran _ c f h =>
    intro d
    by_cases hd : c = d
    · subst hd; exact h.fields (hs c)
    · obtain ⟨hx, hm⟩ := h.others d hd
      rw [hx, hm]; exact hs d
  | @bound c k ch hx hk ha =>
    intro d
    have hm : (s.bind c k).monitor d = s.monitor d := rfl
    rw [hm, chamber_bind]
    split
    · rename_i hd
      subst hd
      have := hs c
      simp_all [Chamber.FieldsPresent, Chamber.bindTo, ChamberState.counts]
    · exact hs d
  | @unbound c k ch st hst hk =>
    intro d
    have hm : (s.unbind c k st).monitor d = s.monitor d := rfl
    rw [hm, chamber_unbind]
    split
    · rename_i hd
      subst hd
      have := hs c
      obtain ⟨hx, -⟩ | ⟨hx, -⟩ := releasesTo_cases hst <;>
        simp_all [Chamber.FieldsPresent, ChamberState.counts, ChamberState.inRun]
    · exact hs d
  | created | deleted | drawn | ending | drawEnded | packOpened | repacked | freed | moved | scheduled | speciesWritten => exact hs
  | emptied h => exact fun c => (h.chambers c).2

/-! ### Bindings and the drawn link -/

theorem State.Ran.bound_charge {s t : State} {c : ChamberNo} {f : Charge → Charge} (h : s.Ran c f t) (hs : s.ChambersBound)
    {k : Fin 8} (hk : (s.chamber c).chargeSlot = some k) :
    ∃ ch, s.charge k = some ch ∧ t.charge k = some (f ch) ∧ ch.chamber = some c ∧
      (s.chamber c).state.bindsIn = some ch.state ∧ (t.chamber c).state.bindsIn = some (f ch).state := by
  obtain ⟨ch, hch, hc, hb⟩ := hs c k hk
  exact ⟨ch, hch, by rw [h.charges k, Option.mem_def.1 hch]; simp [hk], hc, hb, h.binds ch hb⟩

theorem bindsIn_cases {x : ChamberState} {st : ChargeState} (h : x.bindsIn = some st) :
    st = .loaded ∨ st = .inKiln ∨ st = .dried := by
  cases x <;> simp_all [ChamberState.bindsIn]

/-- The chambers' halves stand where the chambers do, and every charge but one in a state without a chamber. -/
theorem State.ChambersBound.of_unbound {s t : State} (hx : s.ChambersBound) {k : Fin 8} (hc : ∀ e, t.chamber e = s.chamber e)
    (hother : ∀ j, k ≠ j → t.charge j = s.charge j)
    (hk : ∀ ch, s.charge k = some ch → ¬(ch.state = .loaded ∨ ch.state = .inKiln ∨ ch.state = .dried)) : t.ChambersBound := by
  intro e j hj
  rw [hc] at hj ⊢
  obtain ⟨a, haj, hac, has⟩ := hx e j hj
  have hne : k ≠ j := fun h => hk a (h ▸ haj) (bindsIn_cases has)
  exact ⟨a, (hother j hne).trans haj, hac, has⟩

theorem State.Change.chambersBound {held : Prop} {s t : State} (h : s.Change held t) (hs : s.Linked) : t.ChambersBound := by
  obtain ⟨hf, hx, hc, hd⟩ := hs
  cases h with
  | kept h =>
    intro c k hk
    obtain ⟨h1, h2, -⟩ := h.chambers c
    rw [h2] at hk
    obtain ⟨a, ha, hac, has⟩ := hx c k hk
    obtain ⟨b, hb, hcore⟩ := h.charge_after ha
    refine ⟨b, hb, ?_, ?_⟩
    · exact (congrArg Charge.chamber hcore).trans hac
    · rw [h1, has]; exact congrArg some (congrArg Charge.state hcore).symm
  | @ran _ c f h =>
    intro e k hk
    by_cases he : c = e
    · subst he
      rw [h.slot] at hk
      obtain ⟨ch, -, hch, hcc, -, hb⟩ := h.bound_charge hx hk
      exact ⟨f ch, hch, (congrArg Charge.chamber (h.core ch)).trans hcc, hb⟩
    · rw [(h.others e he).1] at hk ⊢
      obtain ⟨a, ha, hac, has⟩ := hx e k hk
      have hne : (s.chamber c).chargeSlot ≠ some k := fun hck => by
        obtain ⟨a', ha', hac', -⟩ := hx c k hck
        obtain rfl := Option.some.inj ((Option.mem_def.1 ha).symm.trans ha')
        exact he (Option.some.inj (hac'.symm.trans hac))
      exact ⟨a, by rw [h.charges k, Option.mem_def.1 ha]; simp [hne], hac, has⟩
  | @bound c k ch hxe hk ha =>
    intro e j hj
    rw [chamber_bind] at hj ⊢
    rw [charge_bind]
    split at hj
    · rename_i he
      obtain rfl := Option.some.inj hj
      exact ⟨_, by rw [hk]; rfl, by simp [he], by simp [he, Chamber.bindTo, ChamberState.bindsIn]⟩
    · rename_i he
      obtain ⟨a, haj, hac, has⟩ := hx e j hj
      have hne : k ≠ j := by
        rintro rfl
        obtain rfl := Option.some.inj ((Option.mem_def.1 haj).symm.trans hk)
        rw [ha] at has
        simpa using bindsIn_cases has
      exact ⟨a, by rw [Option.mem_def.1 haj]; simp [hne], hac, by simpa [he] using has⟩
  | @unbound c k ch st hst hk =>
    intro e j hj
    rw [chamber_unbind] at hj ⊢
    rw [charge_unbind]
    split at hj
    · simp at hj
    · rename_i he
      obtain ⟨a, haj, hac, has⟩ := hx e j hj
      have hne : k ≠ j := by
        rintro rfl
        obtain ⟨b, hb, hbc, -⟩ := hx c k (bound_eq_some.1 hk).1
        obtain rfl := Option.some.inj ((Option.mem_def.1 haj).symm.trans hb)
        exact he (Option.some.inj (hbc.symm.trans hac))
      exact ⟨a, by rw [Option.mem_def.1 haj]; simp [hne], hac, by simpa [he] using has⟩
  | @created k species schedule sch curve declared parent hk hsch hsp =>
    refine hx.of_unbound (k := k) (fun _ => rfl) (fun j hne => State.charge_setCharge_other s _ hne) fun a ha => ?_
    simp [hk] at ha
  | @deleted k ch hk hst =>
    refine hx.of_unbound (k := k) (fun _ => rfl) (fun j hne => State.charge_setCharge_other s _ hne) fun a ha => ?_
    obtain rfl := Option.some.inj (hk.symm.trans ha)
    obtain h | h := hst <;> simp [h]
  | @drawn k ch auto hdn hk hr =>
    refine hx.of_unbound (k := k) (fun _ => rfl) (fun j hne => State.charge_modCharge_other s _ hne) fun a ha => ?_
    obtain rfl := Option.some.inj (hk.symm.trans ha)
    simp [hr]
  | @drawEnded d hds hfi ho =>
    refine hx.of_unbound (k := d.slot) (fun _ => rfl) (fun j hne => State.charge_modCharge_other s _ hne) fun a ha => ?_
    obtain ⟨b, hb, hst⟩ := hd.1 d hds
    obtain rfl := Option.some.inj ((Option.mem_def.1 hb).symm.trans ha)
    simp [hst]
  | @moved b rest hfi =>
    intro e j hj
    obtain ⟨a, haj, hac, has⟩ := hx e j hj
    refine ⟨_, mem_charge_modCharge.2 ⟨a, haj, rfl⟩, ?_, ?_⟩ <;> split <;> assumption
  | ending | packOpened | repacked | freed | scheduled | speciesWritten => exact hx
  | emptied h =>
    intro c k hk
    obtain ⟨he, hslot, -⟩ := h.chambers c
    simp [Option.mem_def.1 hk, he] at hslot

theorem State.Change.chargesBound {held : Prop} {s t : State} (h : s.Change held t) (hs : s.Linked) : t.ChargesBound := by
  obtain ⟨hf, hx, hc, hd⟩ := hs
  cases h with
  | kept h =>
    intro k b hb
    obtain ⟨a, ha, hcore⟩ := h.charge_before hb
    have hch : b.chamber = a.chamber := (congrArg Charge.chamber hcore :)
    have hst : b.state = a.state := (congrArg Charge.state hcore :)
    rw [hch, hst]
    exact ⟨fun c hac => (h.chambers c).2.1.trans ((hc k a ha).1 c hac), (hc k a ha).2⟩
  | @ran _ c f h =>
    intro k b hb
    rw [h.charges k, Option.mem_map] at hb
    obtain ⟨a, ha, rfl⟩ := hb
    have hch : (f a).chamber = a.chamber := (congrArg Charge.chamber (h.core a) :)
    have hslot : ∀ e, (t.chamber e).chargeSlot = (s.chamber e).chargeSlot := fun e => by
      by_cases he : c = e
      · subst he; exact h.slot
      · rw [(h.others e he).1]
    simp only [hslot]
    split
    · rename_i hk
      obtain ⟨a', ha', -, hac, hb, hbf⟩ := h.bound_charge hx hk
      obtain rfl := Option.some.inj ((Option.mem_def.1 ha).symm.trans ha')
      rw [hch]
      exact ⟨(hc k a ha).1, by simpa [hac] using bindsIn_cases hbf⟩
    · exact hc k a ha
  | @bound c k ch hxe hk ha =>
    intro j b hb
    rw [charge_bind, Option.mem_map] at hb
    obtain ⟨a, haj, rfl⟩ := hb
    split
    · rename_i hkj
      subst hkj
      refine ⟨fun e he => ?_, by simp⟩
      obtain rfl := Option.some.inj he
      rw [chamber_bind, if_pos rfl]; rfl
    · rename_i hkj
      refine ⟨fun e he => ?_, (hc j a haj).2⟩
      have hslot := (hc j a haj).1 e he
      rw [chamber_bind, if_neg]
      · exact hslot
      · rintro rfl
        have := (hf c).1
        simp_all
  | @unbound c k ch st hst hk =>
    intro j b hb
    rw [charge_unbind, Option.mem_map] at hb
    obtain ⟨a, haj, rfl⟩ := hb
    split
    · refine ⟨by simp, ?_⟩
      obtain ⟨-, rfl⟩ | ⟨-, rfl⟩ := releasesTo_cases hst <;> simp
    · rename_i hkj
      refine ⟨fun e he => ?_, (hc j a haj).2⟩
      have hslot := (hc j a haj).1 e he
      rw [chamber_unbind, if_neg]
      · exact hslot
      · rintro rfl
        exact hkj (Option.some.inj ((bound_eq_some.1 hk).1.symm.trans hslot))
  | @created k species schedule sch curve declared parent hk hsch hsp =>
    intro j b hb
    have hb : (s.setCharge k _).charge j = some b := hb
    rw [charge_setCharge] at hb
    split at hb
    · obtain rfl := Option.some.inj hb
      simp [Charge.created]
    · exact hc j b hb
  | @deleted k ch hk hst =>
    intro j b hb
    rw [charge_setCharge] at hb
    split at hb
    · simp at hb
    · exact hc j b hb
  | @drawn k ch auto hdn hk hr =>
    intro j b hb
    obtain ⟨a, haj, rfl⟩ := mem_charge_modCharge.1 hb
    split
    · rename_i hkj
      subst hkj
      obtain rfl := Option.some.inj (haj.symm.trans hk)
      have := hc k a hk
      simp_all
    · exact hc j a haj
  | @drawEnded d hds hfi ho =>
    intro j b hb
    obtain ⟨a, haj, rfl⟩ := mem_charge_modCharge.1 hb
    split
    · rename_i hkj
      subst hkj
      obtain ⟨a', ha', hs'⟩ := hd.1 d hds
      obtain rfl := Option.some.inj (haj.symm.trans ha')
      have := hc d.slot a haj
      simp_all
    · exact hc j a haj
  | @moved b rest hfi =>
    intro j b' hb
    obtain ⟨a, haj, rfl⟩ := mem_charge_modCharge.1 hb
    split <;> exact hc j a haj
  | ending | packOpened | repacked | freed | scheduled | speciesWritten => exact hc
  | emptied h =>
    intro k b hb
    simp [h.charges k] at hb

theorem State.Change.drawHeld {held : Prop} {s t : State} (h : s.Change held t) (hs : s.Linked) : t.DrawHeld := by
  obtain ⟨hf, hx, hc, hd1, hd2, hd3⟩ := hs
  cases h with
  | kept h =>
    refine ⟨fun d hd => ?_, fun k b hb hst => ?_, ?_⟩
    · rw [h.draw] at hd
      obtain ⟨a, ha, hst⟩ := hd1 d hd
      obtain ⟨b, hb, hcore⟩ := h.charge_after ha
      exact ⟨b, hb, (congrArg Charge.state hcore).trans hst⟩
    · obtain ⟨a, ha, hcore⟩ := h.charge_before hb
      rw [h.draw]
      exact hd2 k a ha ((congrArg Charge.state hcore).symm.trans hst)
    · rw [h.draw, h.fifo]; exact hd3
  | @ran _ c f h =>
    have hbound : ∀ {k a}, s.charge k = some a → (s.chamber c).chargeSlot = some k →
        a.state ≠ .onLine ∧ (f a).state ≠ .onLine := by
      intro k a ha hk
      obtain ⟨a', ha', -, -, hb, hbf⟩ := h.bound_charge hx hk
      obtain rfl := Option.some.inj (ha.symm.trans ha')
      have := bindsIn_cases hb
      have := bindsIn_cases hbf
      constructor <;> rintro h <;> simp_all
    refine ⟨fun d hd => ?_, fun k b hb hst => ?_, ?_⟩
    · rw [h.draw] at hd
      obtain ⟨a, ha, hst⟩ := hd1 d hd
      have hne : (s.chamber c).chargeSlot ≠ some d.slot := fun hk => (hbound ha hk).1 hst
      exact ⟨a, by rw [h.charges, Option.mem_def.1 ha]; simp [hne], hst⟩
    · rw [h.charges k, Option.mem_map] at hb
      obtain ⟨a, ha, rfl⟩ := hb
      rw [h.draw]
      split at hst
      · rename_i hk
        exact absurd hst (hbound ha hk).2
      · exact hd2 k a ha hst
    · rw [h.draw, h.fifo]; exact hd3
  | @bound c k ch hxe hk ha =>
    refine ⟨fun d hd => ?_, fun j b hb hst => ?_, hd3⟩
    · obtain ⟨a, haj, hst⟩ := hd1 d hd
      have hne : k ≠ d.slot := by rintro rfl; simp_all
      exact ⟨a, by rw [charge_bind, Option.mem_def.1 haj]; simp [hne], hst⟩
    · rw [charge_bind, Option.mem_map] at hb
      obtain ⟨a, haj, rfl⟩ := hb
      split at hst
      · simp at hst
      · exact hd2 j a haj hst
  | @unbound c k ch st hst hk =>
    refine ⟨fun d hd => ?_, fun j b hb hso => ?_, hd3⟩
    · obtain ⟨a, haj, hso⟩ := hd1 d hd
      have hne : k ≠ d.slot := by
        rintro rfl
        obtain ⟨a', ha', -, hb⟩ := hx c d.slot (bound_eq_some.1 hk).1
        have := bindsIn_cases hb
        simp_all
      exact ⟨a, by rw [charge_unbind, Option.mem_def.1 haj]; simp [hne], hso⟩
    · rw [charge_unbind, Option.mem_map] at hb
      obtain ⟨a, haj, rfl⟩ := hb
      split at hso
      · obtain ⟨-, rfl⟩ | ⟨-, rfl⟩ := releasesTo_cases hst <;> simp at hso
      · exact hd2 j a haj hso
  | @created k species schedule sch curve declared parent hk hsch hsp =>
    refine ⟨fun d hd => ?_, fun j b hb hso => ?_, hd3⟩
    · obtain ⟨a, haj, hso⟩ := hd1 d hd
      have hne : k ≠ d.slot := by rintro rfl; simp [hk] at haj
      exact ⟨a, (State.charge_setCharge_other s _ hne).trans haj, hso⟩
    · have hb : (s.setCharge k _).charge j = some b := hb
      rw [charge_setCharge] at hb
      split at hb
      · obtain rfl := Option.some.inj hb
        simp [Charge.created] at hso
      · exact hd2 j b hb hso
  | @deleted k ch hk hst =>
    refine ⟨fun d hd => ?_, fun j b hb hso => ?_, hd3⟩
    · obtain ⟨a, haj, hso⟩ := hd1 d hd
      have hne : k ≠ d.slot := by rintro rfl; simp_all
      exact ⟨a, (State.charge_setCharge_other s _ hne).trans haj, hso⟩
    · rw [charge_setCharge] at hb
      split at hb
      · simp at hb
      · exact hd2 j b hb hso
  | @drawn k ch auto hdn hk hr =>
    refine ⟨fun d hd => ?_, fun j b hb hso => ?_, fun b hb => ?_⟩
    · obtain rfl := Option.some.inj hd
      exact ⟨_, mem_charge_modCharge.2 ⟨ch, hk, rfl⟩, by simp⟩
    · obtain ⟨a, haj, rfl⟩ := mem_charge_modCharge.1 hb
      split at hso
      · rename_i hkj
        exact ⟨_, rfl, hkj⟩
      · obtain ⟨d, hd, -⟩ := hd2 j a haj hso
        simp [hdn] at hd
    · obtain ⟨d, hd, -⟩ := hd3 b hb
      simp [hdn] at hd
  | @ending d hds =>
    refine ⟨fun e he => ?_, fun j b hb hso => ?_, fun b hb => ?_⟩
    · obtain rfl := Option.some.inj he
      exact hd1 d hds
    · obtain ⟨e, he, hej⟩ := hd2 j b hb hso
      obtain rfl := Option.some.inj (hds.symm.trans he)
      exact ⟨_, rfl, hej⟩
    · obtain ⟨e, he, hej⟩ := hd3 b hb
      obtain rfl := Option.some.inj (hds.symm.trans he)
      exact ⟨_, rfl, hej⟩
  | @drawEnded d hds hfi ho =>
    refine ⟨fun e he => by simp at he, fun j b hb hso => ?_, fun b hb => ?_⟩
    · obtain ⟨a, haj, rfl⟩ := mem_charge_modCharge.1 hb
      split at hso
      · simp at hso
      · rename_i hne
        obtain ⟨e, he, hej⟩ := hd2 j a haj hso
        obtain rfl := Option.some.inj (hds.symm.trans he)
        exact absurd hej hne
    · obtain ⟨e, he, hej⟩ := hd3 b hb
      obtain rfl := Option.some.inj (hds.symm.trans he)
      exact absurd hej.symm (hfi b hb)
  | @moved b rest hfi =>
    refine ⟨fun d hd => ?_, fun j b' hb hso => ?_, fun b' hb => hd3 b' (hfi ▸ List.mem_cons_of_mem b hb)⟩
    · obtain ⟨a, haj, hso⟩ := hd1 d hd
      exact ⟨_, mem_charge_modCharge.2 ⟨a, haj, rfl⟩, by split <;> exact hso⟩
    · obtain ⟨a, haj, rfl⟩ := mem_charge_modCharge.1 hb
      split at hso <;> exact hd2 j a haj hso
  | packOpened | repacked | freed | scheduled | speciesWritten => exact ⟨hd1, hd2, hd3⟩
  | emptied h =>
    refine ⟨fun d hd => ?_, fun k b hb => ?_, fun b hb => ?_⟩
    · simp [h.draw] at hd
    · simp [h.charges k] at hb
    · simp [h.fifo] at hb

/-- R8, R61, R117: a change leaves every link whole. -/
theorem State.Change.linked {held : Prop} {s t : State} (h : s.Change held t) (hs : s.Linked) : t.Linked :=
  ⟨h.fieldsPresent hs.1, h.chambersBound hs, h.chargesBound hs, h.drawHeld hs⟩

end Sys2Proof.Machine
end

-- ==== Proofs: every change keeps a sound state sound ====
section
/-! R20, R27, R78, R126, R139: each kind of change leaves the records that links lead to in their places. -/

namespace Sys2Proof.Machine

/-! ### Schedules and species -/

theorem schedules_set (s : State) (n m : Fin 16) (x : Option Schedule) :
    (s.schedules.set n x)[m] = if n = m then x else s.schedules[m] := by
  simp only [Fin.getElem_fin, Vector.getElem_set, Fin.ext_iff]

theorem species_set (s : State) (i j : Fin 8) (x : Option Species) :
    (s.species.set i x)[j] = if i = j then x else s.species[j] := by
  simp only [Fin.getElem_fin, Vector.getElem_set, Fin.ext_iff]

theorem State.Change.recordsValid {held : Prop} {s t : State} (h : s.Change held t) (hs : s.RecordsValid) :
    t.RecordsValid := by
  cases h with
  | kept h => rw [State.RecordsValid, h.schedules, h.species]; exact hs
  | ran h => rw [State.RecordsValid, h.schedules, h.species]; exact hs
  | @scheduled n x hu hv =>
    refine ⟨fun m sch hm => ?_, hs.2⟩
    rw [Option.mem_def, schedules_set] at hm
    split at hm
    · exact hv sch hm
    · exact hs.1 m sch hm
  | @speciesWritten i sp hv =>
    refine ⟨hs.1, fun j x hj => ?_⟩
    rw [Option.mem_def, species_set] at hj
    split at hj
    · obtain rfl := Option.some.inj hj
      exact hv
    · exact hs.2 j x hj
  | emptied h =>
    refine ⟨fun n sch hn => ?_, fun i sp hi => ?_⟩
    · obtain he | he := h.schedules n
      · exact hs.1 n sch (he ▸ hn)
      · simp [he] at hn
    · obtain he | he := h.species i
      · exact hs.2 i sp (he ▸ hi)
      · simp [he] at hi
  | bound | unbound | created | deleted | drawn | ending | drawEnded | packOpened | repacked | freed | moved => exact hs

/-- A charge that holds its schedule in use names one that is in use (R27). -/
theorem scheduleInUse_of_holds {s : State} {k : Fin 8} {ch : Charge} (hk : s.charge k = some ch)
    (hh : ch.state.holdsRecords = true) : s.scheduleInUse ch.schedule = true := by
  simp only [State.scheduleInUse, State.heldBy, List.any_eq_true]
  exact ⟨k, mem_allChargeSlots k, by simp [hk, hh]⟩

/-- What R27 and R28 ask of the records that a charge in this state names. -/
def State.Names (s : State) (st : ChargeState) (schedule : Fin 16) (species : Fin 8) : Prop :=
  (st.holdsRecords → s.schedules[schedule].isSome) ∧ s.species[species].isSome

theorem recordsHeld_iff {s : State} : s.RecordsHeld ↔ ∀ k ch, s.charge k = some ch → s.Names ch.state ch.schedule ch.species :=
  Iff.rfl

/-- A charge past its kiln run holds no schedule in use. -/
theorem State.Names.past {s : State} {st st' : ChargeState} {schedule : Fin 16} {species : Fin 8}
    (h : s.Names st schedule species) (hst : st'.holdsRecords = true → st.holdsRecords = true) : s.Names st' schedule species :=
  ⟨fun h' => h.1 (hst h'), h.2⟩

theorem State.Change.recordsHeld {held : Prop} {s t : State} (h : s.Change held t) (hl : s.Linked) (hs : s.RecordsHeld) :
    t.RecordsHeld := by
  obtain ⟨-, hx, -, -⟩ := hl
  rw [recordsHeld_iff] at hs ⊢
  cases h with
  | kept h =>
    intro k b hb
    obtain ⟨a, ha, hcore⟩ := h.charge_before hb
    have hst : b.state = a.state := (congrArg Charge.state hcore :)
    have hsc : b.schedule = a.schedule := (congrArg Charge.schedule hcore :)
    have hsp : b.species = a.species := (congrArg Charge.species hcore :)
    simpa only [State.Names, h.schedules, h.species, hst, hsc, hsp] using hs k a ha
  | @ran _ c f h =>
    intro k b hb
    rw [h.charges k, Option.map_eq_some_iff] at hb
    obtain ⟨a, ha, rfl⟩ := hb
    have hsc : (f a).schedule = a.schedule := (congrArg Charge.schedule (h.core a) :)
    have hsp : (f a).species = a.species := (congrArg Charge.species (h.core a) :)
    have hn : ∀ st sc sp, s.Names st sc sp → t.Names st sc sp := fun st sc sp hn => by
      simpa only [State.Names, h.schedules, h.species] using hn
    apply hn
    split
    · rename_i hk
      obtain ⟨a', ha', -, -, hb, -⟩ := h.bound_charge hx hk
      obtain rfl := Option.some.inj (ha.symm.trans ha')
      simpa only [hsc, hsp] using (hs k a ha).past (h.holds a hb)
    · exact hs k a ha
  | @bound c k ch hxe hk ha =>
    intro j b hb
    rw [charge_bind, Option.map_eq_some_iff] at hb
    obtain ⟨a, haj, rfl⟩ := hb
    split
    · rename_i hkj
      subst hkj
      obtain rfl := Option.some.inj (haj.symm.trans hk)
      exact (hs k a hk).past fun _ => by rw [ha]; rfl
    · exact hs j a haj
  | @unbound c k ch st hst hk =>
    intro j b hb
    rw [charge_unbind, Option.map_eq_some_iff] at hb
    obtain ⟨a, haj, rfl⟩ := hb
    split
    · rename_i hkj
      subst hkj
      obtain ⟨a', ha', -, hbi⟩ := hx c k (bound_eq_some.1 hk).1
      obtain rfl := Option.some.inj (haj.symm.trans ha')
      refine (hs k a haj).past fun h => ?_
      obtain ⟨hcs, -⟩ | ⟨-, rfl⟩ := releasesTo_cases hst
      · rw [hcs] at hbi
        rw [← Option.some.inj hbi]; rfl
      · simp [ChargeState.holdsRecords] at h
    · exact hs j a haj
  | @created k species schedule sch curve declared parent hk hsch hsp =>
    intro j b hb
    have hb : (s.setCharge k _).charge j = some b := hb
    rw [charge_setCharge] at hb
    split at hb
    · obtain rfl := Option.some.inj hb
      exact ⟨fun _ => Option.isSome_of_mem hsch, Option.isSome_of_mem hsp⟩
    · exact hs j b hb
  | @deleted k ch hk hst =>
    intro j b hb
    rw [charge_setCharge] at hb
    split at hb
    · simp at hb
    · exact hs j b hb
  | @drawn k ch auto hdn hk hr =>
    intro j b hb
    obtain ⟨a, haj, rfl⟩ := mem_charge_modCharge.1 hb
    split
    · exact (hs j a haj).past fun h => by simp [ChargeState.holdsRecords] at h
    · exact hs j a haj
  | @drawEnded d hds hfi ho =>
    intro j b hb
    obtain ⟨a, haj, rfl⟩ := mem_charge_modCharge.1 hb
    split
    · rw [planed_species, planed_state, planed_schedule]
      exact (hs j a haj).past fun h => by simp [ChargeState.holdsRecords] at h
    · exact hs j a haj
  | @moved b rest hfi =>
    intro j b' hb
    obtain ⟨a, haj, rfl⟩ := mem_charge_modCharge.1 hb
    split <;> exact hs j a haj
  | @scheduled n x hu hv =>
    intro k ch hk
    refine ⟨fun h => ?_, (hs k ch hk).2⟩
    rw [schedules_set, if_neg]
    · exact (hs k ch hk).1 h
    · rintro rfl
      exact Bool.false_ne_true (hu.symm.trans (scheduleInUse_of_holds hk h))
  | @speciesWritten i sp hv =>
    intro k ch hk
    refine ⟨(hs k ch hk).1, ?_⟩
    rw [species_set]
    split
    · rfl
    · exact (hs k ch hk).2
  | ending | packOpened | repacked | freed => exact hs
  | emptied h =>
    intro k b hb
    simp [h.charges k] at hb

/-! ### The step of a run -/

/-- The schedule of a bound charge stands through a change of charges that keeps each its schedule. -/
theorem scheduleAt_congr {s t : State} {c : ChamberNo} (hslot : (t.chamber c).chargeSlot = (s.chamber c).chargeSlot)
    (hcharge : ∀ k, (s.chamber c).chargeSlot = some k → (t.charge k).map Charge.schedule = (s.charge k).map Charge.schedule)
    (hsch : t.schedules = s.schedules) : t.scheduleAt c = s.scheduleAt c := by
  simp only [State.scheduleAt, State.bound, hslot]
  cases hk : (s.chamber c).chargeSlot with
  | none => rfl
  | some k =>
    have := hcharge k hk
    cases ha : s.charge k <;> cases hb : t.charge k <;> simp_all [State.scheduleOf]

theorem onAStep_iff {s : State} : s.OnAStep ↔ ∀ c, (s.chamber c).state.counts = true →
    ∃ sch i, s.scheduleAt c = some sch ∧ (s.chamber c).stepIndex = some i ∧ i < sch.steps.length := by
  refine forall_congr' fun c => imp_congr_right fun _ => ?_
  simp only [scheduleAt_eq_some, Option.mem_def]
  constructor
  · rintro ⟨k, hk, ch, hch, sch, hsch, i, hi, hlt⟩
    exact ⟨sch, i, ⟨k, ch, hk, hch, hsch⟩, hi, hlt⟩
  · rintro ⟨sch, i, ⟨k, ch, hk, hch, hsch⟩, hi, hlt⟩
    exact ⟨k, hk, ch, hch, sch, hsch, i, hi, hlt⟩

theorem State.Kept.scheduleAt {s t : State} (h : s.Kept t) (c : ChamberNo) : t.scheduleAt c = s.scheduleAt c := by
  refine scheduleAt_congr (h.chambers c).2.1 (fun k _ => ?_) h.schedules
  simpa [Function.comp_def, Charge.core] using congrArg (Option.map Charge.schedule) (h.charges k)

/-- Chambers that count stay on their step where neither the chamber nor its charge's schedule number changes. -/
theorem onAStep_of_same {s t : State} (hs : s.OnAStep) (hsch : t.schedules = s.schedules)
    (h : ∀ c, (t.chamber c).state.counts = true → t.chamber c = s.chamber c ∧
      ∀ k, (s.chamber c).chargeSlot = some k → (t.charge k).map Charge.schedule = (s.charge k).map Charge.schedule) :
    t.OnAStep := by
  rw [onAStep_iff] at hs ⊢
  intro c hcn
  obtain ⟨hx, hk⟩ := h c hcn
  rw [hx] at hcn ⊢
  rw [scheduleAt_congr (by rw [hx]) hk hsch]
  exact hs c hcn

theorem State.Ran.scheduleAt {s t : State} {c : ChamberNo} {f : Charge → Charge} (h : s.Ran c f t) (d : ChamberNo) :
    t.scheduleAt d = s.scheduleAt d := by
  refine scheduleAt_congr ?_ (fun k _ => ?_) h.schedules
  · by_cases hd : c = d
    · subst hd; exact h.slot
    · rw [(h.others d hd).1]
  · rw [h.charges k, Option.map_map]
    congr 1
    funext ch
    have : (f ch).schedule = ch.schedule := (congrArg Charge.schedule (h.core ch) :)
    simp only [Function.comp]
    split
    · exact this
    · rfl

/-- A counting chamber's charge stands in the kiln. -/
theorem inKiln_of_counts {x : ChamberState} {st : ChargeState} (h : x.counts = true) (hb : x.bindsIn = some st) : st = .inKiln := by
  cases x <;> simp_all [ChamberState.counts, ChamberState.bindsIn]

/-- A counting chamber's charge, found in its slot, stands in the kiln. -/
theorem charge_inKiln_of_counts {s : State} (hx : s.ChambersBound) {c : ChamberNo} {k : Fin 8} {ch : Charge}
    (hcn : (s.chamber c).state.counts = true) (hk : (s.chamber c).chargeSlot = some k) (hch : s.charge k = some ch) :
    ch.state = .inKiln := by
  obtain ⟨a, ha, -, hb⟩ := hx c k hk
  obtain rfl := Option.some.inj (hch.symm.trans ha)
  exact inKiln_of_counts hcn hb

theorem State.Change.onAStep {held : Prop} {s t : State} (h : s.Change held t) (hl : s.Linked) (hs : s.OnAStep) :
    t.OnAStep := by
  obtain ⟨-, hx, -, -⟩ := hl
  cases h with
  | kept h =>
    rw [onAStep_iff] at hs ⊢
    intro c hcn
    obtain ⟨h1, -, h3⟩ := h.chambers c
    rw [h.scheduleAt, h3]
    exact hs c (h1 ▸ hcn)
  | @ran _ c f h =>
    rw [onAStep_iff] at hs ⊢
    intro d hcn
    rw [h.scheduleAt]
    by_cases hd : c = d
    · subst hd
      obtain ⟨hcn', hi⟩ | hsome := h.onStep hcn
      · rw [hi]; exact hs c hcn'
      · exact hsome
    · rw [(h.others d hd).1] at hcn ⊢
      exact hs d hcn
  | @bound c k ch hxe hk ha =>
    refine onAStep_of_same hs rfl fun e hcn => ?_
    rw [chamber_bind] at hcn ⊢
    split at hcn
    · simp [Chamber.bindTo, ChamberState.counts] at hcn
    · rename_i hce
      exact ⟨if_neg hce, fun j _ => charge_modCharge_map s k j fun _ => rfl⟩
  | @unbound c k ch st hst hk =>
    refine onAStep_of_same hs rfl fun e hcn => ?_
    rw [chamber_unbind] at hcn ⊢
    split at hcn
    · simp [ChamberState.counts] at hcn
    · rename_i hce
      exact ⟨if_neg hce, fun j _ => charge_modCharge_map s k j fun _ => rfl⟩
  | @created k species schedule sch curve declared parent hk hsch hsp =>
    refine onAStep_of_same hs rfl fun e hcn => ⟨rfl, fun j hj => congrArg _ (State.charge_setCharge_other s _ ?_)⟩
    rintro rfl
    obtain ⟨a, ha, -⟩ := hx e k hj
    simp [hk] at ha
  | @deleted k ch hk hst =>
    refine onAStep_of_same hs rfl fun e hcn => ⟨rfl, fun j hj => congrArg _ (State.charge_setCharge_other s _ ?_)⟩
    rintro rfl
    have := charge_inKiln_of_counts hx hcn hj hk
    simp [this] at hst
  | @drawn k ch auto hdn hk hr =>
    exact onAStep_of_same hs rfl fun e hcn => ⟨rfl, fun j _ => charge_modCharge_map s k j fun _ => rfl⟩
  | @drawEnded d hds hfi ho =>
    exact onAStep_of_same hs rfl fun e hcn => ⟨rfl, fun j _ => charge_modCharge_map s d.slot j planed_schedule⟩
  | @moved b rest hfi =>
    exact onAStep_of_same hs rfl fun e hcn => ⟨rfl, fun j _ => charge_modCharge_map s b.slot j fun _ => rfl⟩
  | @scheduled n x hu hv =>
    rw [onAStep_iff] at hs ⊢
    intro e hcn
    obtain ⟨sch, i, hsch, hi⟩ := hs e hcn
    refine ⟨sch, i, ?_, hi⟩
    obtain ⟨k, ch, hk, hch, hn⟩ := scheduleAt_eq_some.1 hsch
    refine scheduleAt_eq_some.2 ⟨k, ch, hk, hch, ?_⟩
    rw [schedules_set, if_neg]
    · exact hn
    · rintro rfl
      have := scheduleInUse_of_holds hch (by rw [charge_inKiln_of_counts hx hcn hk hch]; rfl)
      exact Bool.false_ne_true (hu.symm.trans this)
  | ending | packOpened | repacked | freed | speciesWritten => exact hs
  | emptied h =>
    rw [onAStep_iff]
    intro c hcn
    simp [(h.chambers c).1, ChamberState.counts] at hcn

/-! ### Kiln history -/

/-- What R4, R5 and R139 ask of a charge, whatever chamber it is bound to. -/
def Charge.HistoryWhole (ch : Charge) : Prop :=
  (ch.state.pastKiln → ch.finalStats.isSome ∧ ch.endTime.isSome) ∧
  (ch.state.pastKiln ∨ ch.state = .inKiln → ch.startTime.isSome) ∧
  (ch.remaining.isSome ↔ ch.state = .onLine ∨ ch.state = .planed)

/-- The charge of a chamber in COOLING has its final statistics (R83). -/
def State.CoolingFinal (s : State) : Prop :=
  ∀ c k ch, (s.chamber c).state = .cooling → (s.chamber c).chargeSlot = some k → s.charge k = some ch → ch.finalStats.isSome

theorem historyPresent_iff {s : State} :
    s.HistoryPresent ↔ (∀ k ch, s.charge k = some ch → ch.HistoryWhole) ∧ s.CoolingFinal :=
  and_congr Iff.rfl ⟨fun h c k ch hc hk hch => h c hc k hk ch hch, fun h c hc k hk ch hch => h c k ch hc hk hch⟩

theorem Charge.HistoryWhole.of_core {a b : Charge} (h : a.HistoryWhole) (hcore : b.core = a.core) : b.HistoryWhole := by
  have : b.core.HistoryWhole := hcore ▸ (show a.core.HistoryWhole from h)
  exact this

/-- A charge that is moved on by one change of one slot keeps every other charge's history. -/
theorem historyWhole_modCharge {s : State} {k : Fin 8} {f : Charge → Charge}
    (hs : ∀ j ch, s.charge j = some ch → ch.HistoryWhole)
    (hf : ∀ ch, s.charge k = some ch → ch.HistoryWhole → (f ch).HistoryWhole) (j : Fin 8) (b : Charge)
    (hb : (s.modCharge k f).charge j = some b) : b.HistoryWhole := by
  obtain ⟨a, ha, rfl⟩ := mem_charge_modCharge.1 hb
  split
  · rename_i hkj
    subst hkj
    exact hf a ha (hs k a ha)
  · exact hs j a ha

/-- Chambers in COOLING keep their charge's final statistics where neither changes. -/
theorem coolingFinal_of_same {s t : State} (hs : s.CoolingFinal)
    (h : ∀ c, (t.chamber c).state = .cooling → t.chamber c = s.chamber c ∧
      ∀ k, (s.chamber c).chargeSlot = some k → (t.charge k).map Charge.finalStats = (s.charge k).map Charge.finalStats) :
    t.CoolingFinal := by
  intro c k ch hc hk hch
  obtain ⟨hx, hf⟩ := h c hc
  rw [hx] at hc hk
  have := hf k hk
  rw [hch, Option.map_some, eq_comm, Option.map_eq_some_iff] at this
  obtain ⟨a, ha, he⟩ := this
  rw [← he]
  exact hs c k a hc hk ha

theorem State.Change.historyPresent {held : Prop} {s t : State} (h : s.Change held t) (hl : s.Linked)
    (hs : s.HistoryPresent) : t.HistoryPresent := by
  obtain ⟨-, hx, -, hd, -⟩ := hl
  rw [historyPresent_iff] at hs ⊢
  obtain ⟨hw, hcool⟩ := hs
  cases h with
  | kept h =>
    refine ⟨fun k b hb => ?_, fun c k b hc hk hb => ?_⟩
    · obtain ⟨a, ha, hcore⟩ := h.charge_before hb
      exact (hw k a ha).of_core hcore
    · obtain ⟨a, ha, hcore⟩ := h.charge_before hb
      obtain ⟨h1, h2, -⟩ := h.chambers c
      have hfinal : b.finalStats = a.finalStats := (congrArg Charge.finalStats hcore :)
      rw [hfinal]
      exact hcool c k a (h1 ▸ hc) (h2 ▸ hk) ha
  | @ran _ c f h =>
    have hin : ∀ {k a}, s.charge k = some a → (s.chamber c).chargeSlot = some k →
        a.chamber = some c ∧ (t.chamber c).state.bindsIn = some (f a).state ∧ (f a).HistoryIn (t.chamber c).state ∧
          a.remaining = none := by
      intro k a ha hk
      obtain ⟨a', ha', -, hac, hb, hbf⟩ := h.bound_charge hx hk
      obtain rfl := Option.some.inj (ha.symm.trans ha')
      obtain ⟨h1, h2, h3⟩ := hw k a ha
      refine ⟨hac, hbf, h.history a hb ⟨h1, h2, fun hc => hcool c k a hc hk ha⟩, ?_⟩
      have := bindsIn_cases hb
      cases hr : a.remaining with
      | none => rfl
      | some r => obtain h | h | h := this <;> simp [hr, h] at h3
    refine ⟨fun k b hb => ?_, fun e k b hc hk hb => ?_⟩
    · rw [h.charges k, Option.map_eq_some_iff] at hb
      obtain ⟨a, ha, rfl⟩ := hb
      split
      · rename_i hk
        obtain ⟨-, hbf, ⟨h1, h2, -⟩, hr⟩ := hin ha hk
        refine ⟨h1, h2, ?_⟩
        have hrem : (f a).remaining = a.remaining := (congrArg Charge.remaining (h.core a) :)
        have := bindsIn_cases hbf
        rw [hrem, hr]
        obtain h | h | h := this <;> simp [h]
      · exact hw k a ha
    · rw [h.charges k, Option.map_eq_some_iff] at hb
      obtain ⟨a, ha, rfl⟩ := hb
      by_cases hce : c = e
      · subst hce
        rw [h.slot] at hk
        rw [if_pos hk]
        obtain ⟨-, -, ⟨-, -, h3⟩, -⟩ := hin ha hk
        exact h3 hc
      · rw [(h.others e hce).1] at hc hk
        have hne : (s.chamber c).chargeSlot ≠ some k := fun hck => by
          obtain ⟨a', ha', hac', -⟩ := hx e k hk
          obtain rfl := Option.some.inj (ha.symm.trans ha')
          exact hce (Option.some.inj ((hin ha hck).1.symm.trans hac'))
        rw [if_neg hne]
        exact hcool e k a hc hk ha
  | @bound c k ch hxe hk ha =>
    refine ⟨historyWhole_modCharge hw fun a hak ⟨_, _, h3⟩ => ?_, coolingFinal_of_same hcool fun e hc => ?_⟩
    · obtain rfl := Option.some.inj (hak.symm.trans hk)
      simpa [Charge.HistoryWhole, ChargeState.pastKiln, ha] using h3
    · rw [chamber_bind] at hc ⊢
      split at hc
      · simp [Chamber.bindTo] at hc
      · rename_i hce
        exact ⟨if_neg hce, fun j _ => charge_modCharge_map s k j fun _ => rfl⟩
  | @unbound c k ch st hst hk =>
    refine ⟨historyWhole_modCharge hw fun a hak ⟨h1, h2, h3⟩ => ?_, coolingFinal_of_same hcool fun e hc => ?_⟩
    · obtain ⟨a', ha', -, hb⟩ := hx c k (bound_eq_some.1 hk).1
      obtain rfl := Option.some.inj (hak.symm.trans ha')
      obtain ⟨hcs, rfl⟩ | ⟨hcs, rfl⟩ := releasesTo_cases hst <;> rw [hcs] at hb <;> have hb := (Option.some.inj hb).symm
      · simpa [Charge.HistoryWhole, ChargeState.pastKiln, hb] using h3
      · simp only [hb] at h1 h2 h3
        exact ⟨fun _ => h1 rfl, fun _ => h2 (.inl rfl), by simpa using h3⟩
    · rw [chamber_unbind] at hc ⊢
      split at hc
      · simp at hc
      · rename_i hce
        exact ⟨if_neg hce, fun j _ => charge_modCharge_map s k j fun _ => rfl⟩
  | @created k species schedule sch curve declared parent hk hsch hsp =>
    refine ⟨fun j b hb => ?_, coolingFinal_of_same hcool fun e hc =>
      ⟨rfl, fun j hj => congrArg _ (State.charge_setCharge_other s _ ?_)⟩⟩
    · have hb : (s.setCharge k _).charge j = some b := hb
      rw [charge_setCharge] at hb
      split at hb
      · obtain rfl := Option.some.inj hb
        simp [Charge.HistoryWhole, Charge.created, ChargeState.pastKiln]
      · exact hw j b hb
    · rintro rfl
      obtain ⟨a, ha, -⟩ := hx e k hj
      simp [hk] at ha
  | @deleted k ch hk hst =>
    refine ⟨fun j b hb => ?_, fun e j b hc hj hb => ?_⟩ <;> rw [charge_setCharge] at hb <;> split at hb
    · simp at hb
    · exact hw j b hb
    · simp at hb
    · exact hcool e j b hc hj hb
  | @drawn k ch auto hdn hk hr =>
    refine ⟨historyWhole_modCharge hw fun a hak ⟨h1, h2, h3⟩ => ?_, coolingFinal_of_same hcool fun e hc =>
      ⟨rfl, fun j _ => charge_modCharge_map s k j fun _ => rfl⟩⟩
    obtain rfl := Option.some.inj (hak.symm.trans hk)
    simp only [hr] at h1 h2
    exact ⟨fun _ => h1 rfl, fun _ => h2 (.inl rfl), by simp⟩
  | @drawEnded d hds hfi ho =>
    refine ⟨historyWhole_modCharge hw fun a hak ⟨h1, h2, h3⟩ => ?_, coolingFinal_of_same hcool fun e hc =>
      ⟨rfl, fun j _ => charge_modCharge_map s d.slot j planed_finalStats⟩⟩
    obtain ⟨a', ha', hst⟩ := hd d hds
    obtain rfl := Option.some.inj (hak.symm.trans ha')
    simp only [hst] at h1 h2 h3
    simp only [Charge.HistoryWhole, planed_finalStats, planed_endTime, planed_startTime, planed_remaining, planed_state]
    exact ⟨fun _ => h1 rfl, fun _ => h2 (.inl rfl), by simpa using h3⟩
  | @moved b rest hfi =>
    exact ⟨historyWhole_modCharge hw fun a _ h => h, coolingFinal_of_same hcool fun e hc =>
      ⟨rfl, fun j _ => charge_modCharge_map s b.slot j fun _ => rfl⟩⟩
  | ending | packOpened | repacked | freed | speciesWritten | scheduled => exact ⟨hw, hcool⟩
  | emptied h =>
    refine ⟨fun k b hb => ?_, fun c k b hc hk hb => ?_⟩ <;> simp [h.charges k] at hb

/-! ### Packs -/

theorem State.Change.packsHeld {held : Prop} {s t : State} (hh : held) (h : s.Change held t) (hl : s.Linked)
    (hs : s.PacksHeld) : t.PacksHeld := by
  obtain ⟨-, -, -, -, -, hfifo⟩ := hl
  obtain ⟨hone, hp⟩ := hs
  cases h with
  | kept h =>
    refine ⟨fun i j p hi q hj => ?_, fun i p hi => ?_⟩
    · rw [h.pack] at hi hj; exact hone i j p hi q hj
    · rw [h.pack] at hi; rw [h.draw]; exact hp i p hi
  | @ran _ c f h =>
    have hpack : ∀ k, t.pack k = s.pack k := fun k => by rw [State.pack, h.packs, State.pack]
    refine ⟨fun i j p hi q hj => ?_, fun i p hi => ?_⟩
    · rw [hpack] at hi hj; exact hone i j p hi q hj
    · rw [hpack] at hi; rw [h.draw]; exact hp i p hi
  | @drawn k ch auto hdn hk hr =>
    refine ⟨hone, fun i p hi => ⟨fun ho => ?_, (hp i p hi).2⟩⟩
    obtain ⟨-, d, hd, -⟩ := (hp i p hi).1 ho
    simp [hdn] at hd
  | @ending d hds =>
    refine ⟨hone, fun i p hi => ⟨fun ho => ?_, (hp i p hi).2⟩⟩
    obtain ⟨hl, e, he, hsl⟩ := (hp i p hi).1 ho
    obtain rfl := Option.some.inj (hds.symm.trans he)
    exact ⟨hl, _, rfl, hsl⟩
  | @drawEnded d hds hfi ho =>
    exact ⟨hone, fun i p hi => ⟨fun hop => absurd hop (ho hh i p hi), (hp i p hi).2⟩⟩
  | @packOpened k b ch ho hk hb =>
    obtain ⟨d, hd, hds⟩ := hfifo b hb
    have hnot : ∀ {i p}, s.pack i = some p → p.state ≠ .opened := openPack_eq_none ho
    refine ⟨fun i j p hi q hj hpo hqo => ?_, fun i p hi => ?_⟩
    · have hi : (s.setPack k _).pack i = some p := hi
      have hj : (s.setPack k _).pack j = some q := hj
      rw [pack_setPack] at hi hj
      split at hi
      · split at hj
        · rename_i h1 h2; exact h1.symm.trans h2
        · exact absurd hqo (hnot hj)
      · exact absurd hpo (hnot hi)
    · have hi : (s.setPack k _).pack i = some p := hi
      rw [pack_setPack] at hi
      split at hi
      · obtain rfl := Option.some.inj hi
        exact ⟨fun _ => ⟨rfl, d, hd, by rw [hds]; rfl⟩, fun h => absurd rfl h⟩
      · exact hp i p hi
  | @repacked k p q hk hkept =>
    obtain ⟨-, hkept⟩ := hkept
    refine ⟨fun i j x hi y hj hxo hyo => ?_, fun i x hi => ?_⟩
    · -- an OPEN pack after the change was an OPEN pack in the same slot before it
      have hbefore : ∀ i x, (s.setPack k (some q)).pack i = some x → x.state = .opened → ∃ y, s.pack i = some y ∧ y.state = .opened := by
        intro i x hi hx
        rw [pack_setPack] at hi
        split at hi
        · rename_i hki
          subst hki
          obtain rfl := Option.some.inj hi
          obtain ⟨ho, -⟩ | ⟨hno, -⟩ := hkept
          · exact ⟨p, hk, ho.1 hx⟩
          · exact absurd hx hno
        · exact ⟨x, hi, hx⟩
      obtain ⟨x', hx', hxo'⟩ := hbefore i x hi hxo
      obtain ⟨y', hy', hyo'⟩ := hbefore j y hj hyo
      exact hone i j x' hx' y' hy' hxo' hyo'
    · rw [Option.mem_def, pack_setPack] at hi
      split at hi
      · obtain rfl := Option.some.inj hi
        obtain ⟨ho, hlab, hslot⟩ | ⟨hno, hlab, hslot⟩ := hkept
        · rw [hlab, hslot, ne_eq, ho]
          exact hp k p hk
        · exact ⟨fun h => absurd h hno, fun _ => ⟨hlab, hslot⟩⟩
      · exact hp i x hi
  | @freed k =>
    have hsub : ∀ i x, (s.setPack k none).pack i = some x → s.pack i = some x := by
      intro i x hi
      rw [pack_setPack] at hi
      split at hi
      · simp at hi
      · exact hi
    exact ⟨fun i j p hi q hj => hone i j p (hsub i p hi) q (hsub j q hj), fun i p hi => hp i p (hsub i p hi)⟩
  | bound | unbound | created | deleted | moved | speciesWritten | scheduled => exact ⟨hone, hp⟩
  | emptied h =>
    refine ⟨fun i j p hi => ?_, fun i p hi => ?_⟩ <;> simp [h.packs i] at hi

/-! ### Sound states -/

theorem State.Change.pending {held : Prop} {s t : State} (h : s.Change held t) : t.pending = s.pending := by
  cases h with
  | kept h => exact h.pending
  | ran h => exact h.pending
  | emptied h => exact h.pending
  | bound | unbound | created | deleted | drawn | ending | drawEnded | packOpened | repacked | freed | moved | scheduled
  | speciesWritten => rfl

/-- A change leaves a sound state sound. -/
theorem State.Change.sound {held : Prop} {s t : State} (hh : held) (h : s.Change held t) (hs : s.Sound) : t.Sound where
  linked := h.linked hs.linked
  recordsValid := h.recordsValid hs.recordsValid
  recordsHeld := h.recordsHeld hs.linked hs.recordsHeld
  onAStep := h.onAStep hs.linked hs.onAStep
  historyPresent := h.historyPresent hs.linked hs.historyPresent
  packsHeld := h.packsHeld hh hs.linked hs.packsHeld
  pendingWellFormed := by rw [State.PendingWellFormed, h.pending]; exact hs.pendingWellFormed

end Sys2Proof.Machine
end

-- ==== Proofs: what the validations let through ====
section
/-! R24, R30: a staging record and a species record without a failing check are VALID. -/

namespace Sys2Proof.Machine

/-- A list of checks without a first failure passes every check. -/
theorem firstFailure_eq_none {checks : List (Bool × Nat)} : firstFailure checks = none ↔ ∀ x ∈ checks, x.1 = true := by
  induction checks with
  | nil => simp [firstFailure]
  | cons x rest ih =>
    obtain ⟨passes, cause⟩ := x
    cases passes <;> simp [firstFailure, ih]

/-! ### The staging record -/

/-- The checks of R24 on one step slot that look at no other. -/
def StagingStep.Passes (st : StagingStep) : Prop :=
  st.phase.toNat ≤ 2 ∧ st.basis.toNat ≤ 2 ∧ st.changeAt.toNat ≤ 600 ∧ (200 ≤ st.dryBulb.toNat ∧ st.dryBulb.toNat ≤ 1200) ∧
  st.depression.toNat ≤ 400 ∧ st.depression.toNat ≤ st.dryBulb.toNat ∧ st.minDwell.toNat ≤ 10080 ∧ st.ramp.toNat ≤ 200

/-- The checks of R24 on a step slot against an earlier one. -/
def StagingStep.Follows (e st : StagingStep) : Prop :=
  e.phase.toNat ≤ st.phase.toNat ∧
    (e.phase = 0 → st.phase = 0 → e.changeAt ≠ 0 → st.changeAt ≠ 0 → st.changeAt.toNat < e.changeAt.toNat)

/-- What the checks of a step slot say (R24), of the slot alone and against the steps before it, the nearest first. -/
theorem passes_of_checks {earlier : List StagingStep} {st : StagingStep} (h : firstFailure (st.checks earlier) = none) :
    st.Passes ∧ (earlier = [] → st.phase = 0) ∧ (∀ before ∈ earlier.head?, before.phase.toNat ≤ st.phase.toNat) ∧
      ∀ e ∈ earlier, e.phase = 0 → st.phase = 0 → e.changeAt ≠ 0 → st.changeAt ≠ 0 → st.changeAt.toNat < e.changeAt.toNat := by
  have h := firstFailure_eq_none.1 h
  simp only [StagingStep.checks, List.forall_mem_cons, Bool.and_eq_true, decide_eq_true_eq, StagingStep.belowEarlier,
    Bool.or_eq_true, bne_iff_ne, beq_iff_eq, List.all_eq_true, List.not_mem_nil, false_implies, implies_true, and_true] at h
  obtain ⟨h5, h6, h7, h8, h9, h10, h11, h12, h13, h14, h15⟩ := h
  refine ⟨⟨h5, h6, h7, h8, h9, h10, h11, h12⟩, ?_, ?_, fun e he hep hsp hec hsc => ?_⟩
  · rintro rfl
    simpa using h13
  · cases earlier with
    | nil => simp
    | cons before rest => simpa [BitVec.le_def] using h14
  · obtain (h | h) | h := h15
    · exact absurd hsp h
    · exact absurd h hsc
    · obtain (h | h) | h := h e he
      · exact absurd hep h
      · exact absurd h hec
      · exact BitVec.lt_def.1 h

/-- Without a failing step, each step passes its own checks and follows every step before it; the first is a DRY step. Phases are
compared with the step before alone (check 15), so `hearlier` has the phases of the earlier steps, nearest first, in order. -/
theorem stepsFailure_eq_none {steps earlier : List StagingStep} {index : Nat} (h : stepsFailure index earlier steps = none)
    (hearlier : ∀ before ∈ earlier.head?, ∀ e ∈ earlier, e.phase.toNat ≤ before.phase.toNat) :
    (∀ st ∈ steps, st.Passes) ∧ (earlier = [] → ∀ st ∈ steps.head?, st.phase = 0) ∧
      (∀ e ∈ earlier, ∀ st ∈ steps, e.Follows st) ∧ steps.Pairwise StagingStep.Follows := by
  induction steps generalizing index earlier with
  | nil => simp
  | cons st rest ih =>
    have hst : firstFailure (st.checks earlier) = none := by
      cases hf : firstFailure (st.checks earlier) with
      | none => rfl
      | some cause => simp [stepsFailure, hf] at h
    have hrest : stepsFailure (index + 1) (st :: earlier) rest = none := by simpa [stepsFailure, hst] using h
    obtain ⟨hpass, hfirst, hbefore, hbelow⟩ := passes_of_checks hst
    have hle : ∀ e ∈ earlier, e.phase.toNat ≤ st.phase.toNat := fun e he => by
      cases earlier with
      | nil => simp at he
      | cons before others => exact (hearlier before rfl e he).trans (hbefore before rfl)
    obtain ⟨hpasses, -, hfollows, hpair⟩ := ih hrest (by simpa using hle)
    refine ⟨List.forall_mem_cons.2 ⟨hpass, hpasses⟩, fun he st' hst' => ?_, fun e he => ?_, ?_⟩
    · obtain rfl := Option.some.inj hst'
      exact hfirst he
    · exact List.forall_mem_cons.2 ⟨⟨hle e he, hbelow e he⟩, hfollows e (List.mem_cons_of_mem _ he)⟩
    · exact List.pairwise_cons.2 ⟨hfollows st List.mem_cons_self, hpair⟩

theorem committed_phase {st : StagingStep} (h : st.phase.toNat ≤ 2) : st.committed.phase.code = st.phase.toNat := by
  unfold StagingStep.committed
  interval_cases st.phase.toNat <;> rfl

theorem committed_phase_dry {st : StagingStep} (h : st.phase.toNat ≤ 2) : st.committed.phase = .dry ↔ st.phase = 0 := by
  rw [← BitVec.toNat_inj, ← committed_phase h]
  cases st.committed.phase <;> decide

/-- R24: the schedule committed from a staging record without a failing check is VALID. -/
theorem committed_valid {sg : Staging} (h : sg.failure = none) : sg.committed.Valid := by
  have hheader : firstFailure sg.header.checks = none := by
    cases hf : firstFailure sg.header.checks with
    | none => rfl
    | some cause => simp [Staging.failure, hf] at h
  have hsteps : stepsFailure 1 [] sg.used = none := by simpa [Staging.failure, hheader] using h
  have hheader := firstFailure_eq_none.1 hheader
  simp only [StagingHeader.checks, List.forall_mem_cons, Bool.and_eq_true, decide_eq_true_eq, List.not_mem_nil,
    false_implies, implies_true, and_true] at hheader
  obtain ⟨hcount, hmc, hmargin, htemp, htime⟩ := hheader
  obtain ⟨hpass, hfirst, -, hpair⟩ := stepsFailure_eq_none hsteps (by simp)
  have hlen : sg.committed.steps.length = sg.header.stepCount.toNat := by
    simp only [Staging.committed, Staging.used, List.length_map, List.length_take, Vector.length_toList]
    omega
  have hphase : ∀ st ∈ sg.used, st.phase.toNat ≤ 2 := fun st hst => (hpass st hst).1
  refine ⟨hlen ▸ hcount, hmc, hmargin, htemp, htime, ?_, ?_, ?_, ?_⟩
  · refine List.forall_mem_map.2 fun st hst => ?_
    obtain ⟨-, -, h7, h8, h9, h10, h11, h12⟩ := hpass st hst
    exact ⟨h7, h8, h9, h10, h11, h12⟩
  · simp only [Staging.committed, List.head?_map, Option.mem_map]
    rintro _ ⟨st, hst, rfl⟩
    exact (committed_phase_dry (hphase st (List.mem_of_mem_head? hst))).2 (hfirst rfl st hst)
  · refine List.pairwise_map.2 (hpair.imp_of_mem fun ha hb hab => ?_)
    rw [committed_phase (hphase _ ha), committed_phase (hphase _ hb)]
    exact hab.1
  · refine List.pairwise_map.2 (hpair.imp_of_mem fun {a b} ha hb hab hda hdb hca hcb => ?_)
    rw [committed_phase_dry (hphase _ ha)] at hda
    rw [committed_phase_dry (hphase _ hb)] at hdb
    refine hab.2 hda hdb ?_ ?_ <;> rintro h0
    · exact hca (by simp [StagingStep.committed, h0])
    · exact hcb (by simp [StagingStep.committed, h0])

/-! ### The species record -/

/-- Without a failing breakpoint, each is in range and lies beyond the one before it (R30). -/
theorem curveFailure_eq_none {points : List Breakpoint} {before : Option Breakpoint} {index : Nat}
    (h : curveFailure index before points = none) :
    (∀ b ∈ points, (300 ≤ b.code ∧ b.code ≤ 1400) ∧ b.mc ≤ 600) ∧
      (∀ a ∈ before, ∀ b ∈ points, a.code < b.code ∧ b.mc < a.mc) ∧
      points.Pairwise (fun a b => a.code < b.code ∧ b.mc < a.mc) := by
  induction points generalizing index before with
  | nil => simp
  | cons b rest ih =>
    have hb : firstFailure (b.checks before) = none := by
      cases hf : firstFailure (b.checks before) with
      | none => rfl
      | some cause => simp [curveFailure, hf] at h
    have hrest : curveFailure (index + 1) (some b) rest = none := by simpa [curveFailure, hb] using h
    have hb := firstFailure_eq_none.1 hb
    simp only [Breakpoint.checks, List.forall_mem_cons, Bool.and_eq_true, decide_eq_true_eq, List.not_mem_nil,
      false_implies, implies_true, and_true] at hb
    obtain ⟨h0, h1, h2, h3⟩ := hb
    obtain ⟨hrange, hnext, hpair⟩ := ih hrest
    have hnext := hnext b rfl
    refine ⟨List.forall_mem_cons.2 ⟨⟨h0, h2⟩, hrange⟩, fun a ha => ?_, List.pairwise_cons.2 ⟨hnext, hpair⟩⟩
    obtain rfl := Option.mem_def.1 ha
    simp only [decide_eq_true_eq] at h1 h3
    exact List.forall_mem_cons.2 ⟨⟨h1, h3⟩, fun x hx => ⟨h1.trans (hnext x hx).1, (hnext x hx).2.trans h3⟩⟩

/-- R30: a species record as a WRITE carries it, without a failing check, is VALID: its coefficient is one byte. -/
theorem species_valid {params : List Byte} {sp : Species} (hp : parseSpecies params = some sp) (h : sp.failure = none) :
    sp.Valid := by
  obtain ⟨hrange, -, hpair⟩ := curveFailure_eq_none h
  refine ⟨hrange, hpair, ?_⟩
  unfold parseSpecies at hp
  split at hp
  · obtain rfl := Option.some.inj hp
    exact Nat.le_of_lt_succ (BitVec.isLt _)
  · simp at hp

end Sys2Proof.Machine
end

-- ==== Proofs: what a chamber's operations change ====
section
/-! Chapters 4 and 5: every operation of a chamber sequencer or a door monitor is a chain of moves of one chamber along its run. -/

namespace Sys2Proof.Machine

/-! ### Moves of one chamber -/

/-- Moves of chamber `c` along its run, one after another, with changes between them that no link is about. -/
abbrev State.Runs (c : ChamberNo) : State → State → Prop :=
  Relation.ReflTransGen fun s t => s.Kept t ∨ ∃ f, s.Ran c f t

theorem State.Kept.runs {s t : State} (h : s.Kept t) (c : ChamberNo) : s.Runs c t := .single (.inl h)

theorem State.Ran.runs {s t : State} {c : ChamberNo} {f : Charge → Charge} (h : s.Ran c f t) : s.Runs c t := .single (.inr ⟨f, h⟩)

theorem State.Kept.changes {s t : State} {held : Prop} (h : s.Kept t) : State.Changes held s t := .single (.kept h)

theorem State.Runs.changes {s t : State} {c : ChamberNo} {held : Prop} (h : s.Runs c t) : State.Changes held s t := by
  induction h with
  | refl => exact .refl
  | tail _ h ih =>
    obtain h | ⟨f, h⟩ := h
    · exact ih.tail (.kept h)
    · exact ih.tail (.ran h)

theorem State.Runs.scheduleAt {s t : State} {c : ChamberNo} (h : s.Runs c t) (d : ChamberNo) :
    t.scheduleAt d = s.scheduleAt d := by
  induction h with
  | refl => rfl
  | tail _ h ih =>
    obtain h | ⟨f, h⟩ := h
    · exact (h.scheduleAt d).trans ih
    · exact (h.scheduleAt d).trans ih

/-- A chamber that counts goes on counting, or is COMPLETE. -/
theorem State.Runs.underway {s t : State} {c : ChamberNo} (h : s.Runs c t)
    (hs : (s.chamber c).state.counts = true ∨ (s.chamber c).state = .complete) :
    (t.chamber c).state.counts = true ∨ (t.chamber c).state = .complete := by
  induction h with
  | refl => exact hs
  | tail _ h ih =>
    obtain h | ⟨f, h⟩ := h
    · rw [(h.chambers c).1]; exact ih
    · exact h.underway

theorem setMonitor_monitor (s : State) (c : ChamberNo) : s.setMonitor c (s.monitor c) = s := by
  simp [State.setMonitor, State.monitor]

/-- A chamber's record and door hold changed together, its charge untouched. -/
theorem ran_record {s : State} {c : ChamberNo} {x : Chamber} {d : DoorMonitor}
    (hslot : x.chargeSlot = (s.chamber c).chargeSlot)
    (hfields : (s.chamber c).FieldsPresent (s.monitor c) → x.FieldsPresent d)
    (hstep : (s.chamber c).state.counts = true ∧ x.stepIndex = (s.chamber c).stepIndex ∨
      ∃ sch i, s.scheduleAt c = some sch ∧ x.stepIndex = some i ∧ i < sch.steps.length)
    (hbinds : x.state.bindsIn = (s.chamber c).state.bindsIn) (hcool : x.state = .cooling → (s.chamber c).state = .cooling)
    (hunder : x.state.counts = true ∨ x.state = .complete) : s.Ran c id ((s.setChamber c x).setMonitor c d) where
  others e he := by
    rw [State.setMonitor_chamber, monitor_setMonitor, chamber_setChamber, if_neg he, if_neg he]
    exact ⟨rfl, rfl⟩
  slot := by simpa using hslot
  charges k := by simp
  fields := by simpa using hfields
  onStep _ := by simpa using hstep
  underway := by simpa using hunder
  core _ := rfl
  binds ch h := by simpa [hbinds] using h
  holds _ _ h := h
  history ch _ h := ⟨h.1, h.2.1, fun hc => h.2.2 (hcool (by simpa using hc))⟩

/-- A chamber's record changed, its charge and its door hold untouched. -/
theorem ran_setChamber {s : State} {c : ChamberNo} {x : Chamber}
    (hslot : x.chargeSlot = (s.chamber c).chargeSlot)
    (hfields : (s.chamber c).FieldsPresent (s.monitor c) → x.FieldsPresent (s.monitor c))
    (hstep : (s.chamber c).state.counts = true ∧ x.stepIndex = (s.chamber c).stepIndex ∨
      ∃ sch i, s.scheduleAt c = some sch ∧ x.stepIndex = some i ∧ i < sch.steps.length)
    (hbinds : x.state.bindsIn = (s.chamber c).state.bindsIn) (hcool : x.state = .cooling → (s.chamber c).state = .cooling)
    (hunder : x.state.counts = true ∨ x.state = .complete) : s.Ran c id (s.setChamber c x) := by
  have h := ran_record hslot hfields hstep hbinds hcool hunder
  rwa [← State.setChamber_monitor s c x c, setMonitor_monitor] at h

/-! ### Statistics, steps, cooling and completion -/

theorem kept_computeStats (s : State) (c : ChamberNo) : s.Kept (s.computeStats c) :=
  (kept_setBank s c _).trans (kept_setChamber rfl rfl rfl id)

theorem kept_mark (s : State) (c : ChamberNo) (m : Mark) : s.Kept (s.modBound c (Charge.mark m)) :=
  kept_modBound s c fun _ => rfl

/-- A step change (R78) to a step of the bound charge's schedule. -/
theorem stepChange_runs {s : State} {c : ChamberNo} {sch : Schedule} {i : Nat} {st : Step}
    (hsch : s.scheduleAt c = some sch) (hst : sch.steps[i]? = some st) (hcn : (s.chamber c).state.counts = true) :
    s.Runs c (s.stepChange c i st) := by
  have hlt : i < sch.steps.length := (List.getElem?_eq_some_iff.1 hst).1
  have hmove : s.Ran c id (s.modChamber c fun x =>
      { x with stepIndex := some i, dwell := 0, rampAcc := 0, wetSetpoint := wetBulb x.drySetpoint st.depression }) := by
    refine ran_setChamber rfl (fun h => ?_) (.inr ⟨sch, i, hsch, rfl, hlt⟩) rfl id (.inl hcn)
    obtain ⟨h1, h2, h3⟩ := h
    refine ⟨h1, ?_, h3⟩
    cases hx : (s.chamber c).state <;> simp_all [ChamberState.counts]
  exact hmove.runs.trans ((kept_raise _ .step).runs c)

/-- The entry to COOLING from a run (R83): the charge takes its final statistics. -/
theorem intoCooling_runs {s : State} {c : ChamberNo} (coolTemp : Nat) (hrun : (s.chamber c).state.inRun = true) :
    s.Runs c (s.intoCooling c coolTemp) := by
  refine State.Ran.runs (f := fun ch => { ch with finalStats := some (s.chamber c).latest }) ?_
  have hx : (s.intoCooling c coolTemp).chamber c = (s.chamber c).cooled coolTemp := State.chamber_modChamber_same _ c _
  have hm : (s.intoCooling c coolTemp).monitor c = { s.monitor c with hold := none } := State.monitor_setMonitor_same _ c _
  have hrun' : (s.chamber c).state = .running ∨ (s.chamber c).state = .held ∨ (s.chamber c).state = .doorHold := by
    cases h : (s.chamber c).state <;> simp_all [ChamberState.inRun]
  exact {
    others := fun d hd => ⟨State.chamber_setChamber_other _ _ hd, State.monitor_setMonitor_other _ _ hd⟩
    slot := by rw [hx]; rfl
    charges := fun k => charge_modBound s c k _
    fields := by
      rw [hx, hm]
      rintro ⟨h1, h2, h3, h4, h5, h6⟩
      obtain h | h | h := hrun' <;> simp_all [Chamber.FieldsPresent, Chamber.cooled, ChamberState.counts]
    onStep := fun _ => .inl ⟨by obtain h | h | h := hrun' <;> rw [h] <;> rfl, by rw [hx]; rfl⟩
    underway := by rw [hx]; exact .inl rfl
    core := fun _ => rfl
    binds := fun ch h => by
      rw [hx]
      obtain h' | h' | h' := hrun' <;> rw [h'] at h <;> exact h
    holds := fun _ _ h => h
    history := fun ch _ ⟨h1, h2, _⟩ => ⟨fun h => ⟨rfl, (h1 h).2⟩, h2, fun _ => rfl⟩ }

@[simp] theorem intoCooling_state (s : State) (c : ChamberNo) (coolTemp : Nat) :
    ((s.intoCooling c coolTemp).chamber c).state = .cooling :=
  congrArg Chamber.state (State.chamber_modChamber_same _ c _)

/-- The completion of a chamber in COOLING (R15, R84): its charge is DRIED. -/
theorem complete_runs {s : State} {c : ChamberNo} (hcool : (s.chamber c).state = .cooling) : s.Runs c (s.complete c) := by
  refine .trans (State.Ran.runs (f := fun ch => { ch with state := .dried, endTime := some s.clock.seconds }) ?_)
    (((kept_raise _ _).trans (kept_offer _ c _)).runs c)
  have hx := State.chamber_modChamber_same
    (s.modBound c fun ch => { ch with state := .dried, endTime := some s.clock.seconds }) c
    fun x => { x with state := .complete, countdown := none }
  rw [State.modBound_chamber] at hx
  exact {
    others := fun d hd => ⟨State.chamber_setChamber_other _ _ hd, rfl⟩
    slot := by rw [hx]
    charges := fun k => charge_modBound s c k _
    fields := by
      rw [hx]
      rintro ⟨h1, h2, h3, h4, h5, h6⟩
      simp_all [Chamber.FieldsPresent, ChamberState.counts, ChamberState.inRun]
    onStep := fun h => by rw [hx] at h; simp [ChamberState.counts] at h
    underway := by rw [hx]; exact .inr rfl
    core := fun _ => rfl
    binds := fun ch _ => by rw [hx]; rfl
    holds := fun _ _ h => by simp [ChargeState.holdsRecords] at h
    history := fun ch hb ⟨_, h2, h3⟩ => by
      rw [hcool] at hb
      exact ⟨fun _ => ⟨h3 hcool, rfl⟩, fun _ => h2 (.inr (Option.some.inj hb).symm), fun _ => h3 hcool⟩ }

theorem coolingEvents_runs {s : State} {c : ChamberNo} (cause : CoolingCause) (coolTime : Nat)
    (hcool : (s.chamber c).state = .cooling) : s.Runs c (s.coolingEvents c cause coolTime) := by
  have hkept : s.Kept (if cause = .abort then s.offer c (.cooling cause) else (s.offer c (.cooling cause)).raise .step) := by
    split
    · exact kept_offer s c _
    · exact (kept_offer s c _).trans (kept_raise _ _)
  unfold State.coolingEvents
  simp only
  split
  · exact (hkept.runs c).trans (complete_runs ((hkept.chambers c).1.trans hcool))
  · exact hkept.runs c

/-! ### START, ABORT -/

/-- The start of a run (R13, R65): its charge is IN_KILN and its step index names the entry step. -/
theorem beginRun_runs {s : State} {c : ChamberNo} {origin : Port} {sch : Schedule} {t : Nat} {st : Step}
    (hload : (s.chamber c).state = .loaded) (hsch : s.scheduleAt c = some sch) (hst : sch.steps[t]? = some st) :
    s.Runs c (s.beginRun c origin t st) := by
  have hlt : t < sch.steps.length := (List.getElem?_eq_some_iff.1 hst).1
  refine .trans (State.Ran.runs (f := fun ch =>
      let ch := { ch with state := .inKiln, startTime := some s.clock.seconds, lastStats := some (s.chamber c).latest }
      if (s.chamber c).latest.values.isNone then ch.mark .entryBlind else ch) ?_) ((kept_offer _ c (.start origin)).runs c)
  have hx := State.chamber_modChamber_same (s.modBound c fun ch =>
      let ch := { ch with state := .inKiln, startTime := some s.clock.seconds, lastStats := some (s.chamber c).latest }
      if (s.chamber c).latest.values.isNone then ch.mark .entryBlind else ch) c fun x =>
    { x.loadCountdown with
      state := .running, stepIndex := some t, drySetpoint := startSetpoint (s.bank c).dryBulb st,
      wetSetpoint := wetBulb (startSetpoint (s.bank c).dryBulb st) st.depression, dwell := 0, rampAcc := 0, invalidCount := 0 }
  rw [State.modBound_chamber] at hx
  exact {
    others := fun d hd => ⟨State.chamber_setChamber_other _ _ hd, rfl⟩
    slot := by rw [hx]; rfl
    charges := fun k => charge_modBound s c k _
    fields := by
      rw [hx]
      rintro ⟨h1, h2, h3, h4, h5, h6⟩
      simp_all [Chamber.FieldsPresent, Chamber.loadCountdown, ChamberState.counts, ChamberState.inRun]
    onStep := fun _ => .inr ⟨sch, t, hsch, by rw [hx], hlt⟩
    underway := by rw [hx]; exact .inl rfl
    core := fun ch => by dsimp only; split <;> rfl
    binds := fun ch _ => by rw [hx]; dsimp only; split <;> rfl
    holds := fun ch hb _ => by rw [hload] at hb; rw [← Option.some.inj hb]; rfl
    history := fun ch _ _ => by
      rw [hx]
      dsimp only
      split <;> simp [Charge.HistoryIn, Charge.mark, ChargeState.pastKiln] }

theorem abortRun_runs {s : State} {c : ChamberNo} (sch : Schedule) (hrun : (s.chamber c).state.inRun = true) :
    s.Runs c (s.abortRun c sch) :=
  (((kept_mark s c .aborted).runs c).trans (intoCooling_runs sch.coolTemp hrun)).trans
    (coolingEvents_runs .abort sch.coolTime (intoCooling_state _ c _))

/-! ### The evaluation instant -/

theorem runView_some {s : State} {c : ChamberNo} {v : RunView} (h : s.runView c = some v) :
    s.scheduleAt c = some v.sch ∧ (s.chamber c).stepIndex = some v.index ∧ v.sch.steps[v.index]? = some v.step := by
  unfold State.runView at h
  split at h
  · rename_i sch t hsch ht
    obtain ⟨st, hst, rfl⟩ := Option.map_eq_some_iff.1 h
    exact ⟨hsch, ht, hst⟩
  · simp at h

theorem kept_statsStage (s : State) (c : ChamberNo) : s.Kept (s.statsStage c) :=
  (kept_computeStats s c).trans (kept_modBound _ c fun _ => rfl)

/-- A RUNNING chamber held, or a HELD one resumed: no link is about the difference. -/
theorem holdResume_runs {s : State} {c : ChamberNo} {st : ChamberState} (hst : st = .running ∨ st = .held)
    (hs : (s.chamber c).state = .running ∨ (s.chamber c).state = .held) :
    s.Runs c (s.modChamber c fun x => { x with state := st }) := by
  have hcn : (s.chamber c).state.counts = true := by obtain h | h := hs <;> rw [h] <;> rfl
  refine State.Ran.runs (ran_setChamber rfl (fun h => ?_) (.inl ⟨hcn, rfl⟩) ?_ (fun h => ?_) (.inl ?_))
  · obtain ⟨h1, h2, h3, h4, h5, h6⟩ := h
    obtain rfl | rfl := hst <;> obtain h | h := hs <;>
      simp_all [Chamber.FieldsPresent, ChamberState.counts, ChamberState.inRun]
  · obtain rfl | rfl := hst <;> obtain h | h := hs <;> rw [h] <;> rfl
  · obtain rfl | rfl := hst <;> cases h
  · obtain rfl | rfl := hst <;> rfl

theorem blindHold_runs {s : State} {c : ChamberNo} (hs : (s.chamber c).state = .running) : s.Runs c (s.blindHold c) :=
  (holdResume_runs (.inr rfl) (.inl hs)).trans (State.Kept.runs
    ((((kept_mark _ c .lowProbes).trans (kept_raise _ .probe)).trans (kept_raise _ .held)).trans
      (kept_offer _ c (.autoHold .lowProbes))) c)

theorem countStage_runs (s : State) (c : ChamberNo) : s.Runs c (s.countStage c) := by
  have hkept : ∀ n, s.Kept (s.setChamber c { s.chamber c with invalidCount := n }) := fun n => kept_setChamber rfl rfl rfl id
  unfold State.countStage
  simp only
  generalize (if (s.chamber c).latest.values.isNone then satAdd Config.maxShort (s.chamber c).invalidCount 1 else 0) = count
  split
  · rename_i h
    simp only [Bool.and_eq_true, beq_iff_eq] at h
    exact ((hkept count).runs c).trans (blindHold_runs (((hkept count).chambers c).1.trans h.2))
  · exact (hkept count).runs c

theorem manualAdvance_runs {s : State} {c : ChamberNo} {v : RunView} (cmd : RunCommand) (cause : CoolingCause)
    {next : Option (Nat × Step)} (hsch : s.scheduleAt c = some v.sch)
    (hs : (s.chamber c).state = .running ∨ (s.chamber c).state = .held)
    (hnext : ∀ i st, next = some (i, st) → v.sch.steps[i]? = some st) : s.Runs c (s.manualAdvance c v cmd cause next) := by
  have hmark := kept_mark s c .manualStep
  unfold State.manualAdvance
  simp only
  refine (hmark.runs c).trans ?_
  split
  · rename_i i st
    refine (stepChange_runs ((hmark.scheduleAt c).trans hsch) (hnext i st rfl) ?_).trans ((kept_offer _ c _).runs c)
    obtain h | h := hs <;> simp [h, ChamberState.counts]
  · refine (intoCooling_runs v.sch.coolTemp ?_).trans (((kept_offer _ c _).runs c).trans (coolingEvents_runs _ _ ?_))
    · obtain h | h := hs <;> simp [h, ChamberState.inRun]
    · exact intoCooling_state _ c _

theorem laterPhase_some {phase : Phase} {t i : Nat} {steps : List Step} {st : Step}
    (h : laterPhase phase t steps = some (i, st)) : steps[i]? = some st := by
  obtain ⟨⟨x, j⟩, hf, he⟩ := Option.map_eq_some_iff.1 h
  obtain ⟨rfl, rfl⟩ := Prod.mk.inj he
  simpa using List.mk_mem_zipIdx_iff_getElem?.1 (List.mem_of_find?_eq_some hf)

theorem carryOut_runs {s : State} {c : ChamberNo} {v : RunView} (cmd : RunCommand) (hsch : s.scheduleAt c = some v.sch)
    (hs : (s.chamber c).state = .running ∨ (s.chamber c).state = .held) : s.Runs c (s.carryOut c v cmd) := by
  cases cmd with
  | hold =>
    simp only [State.carryOut]
    split
    · exact (holdResume_runs (.inr rfl) hs).trans ((kept_offer _ c _).runs c)
    · exact (kept_offer _ c _).runs c
  | resume =>
    simp only [State.carryOut]
    split
    · exact (holdResume_runs (.inl rfl) hs).trans ((kept_offer _ c _).runs c)
    · exact (kept_offer _ c _).runs c
  | step =>
    refine manualAdvance_runs .step .step hsch hs fun i st h => ?_
    obtain ⟨st', hst', he⟩ := Option.map_eq_some_iff.1 h
    obtain ⟨rfl, rfl⟩ := Prod.mk.inj he
    exact hst'
  | skipPhase => exact manualAdvance_runs .skipPhase .skipPhase hsch hs fun i st h => laterPhase_some h

theorem commandStage_runs {s : State} {c : ChamberNo} {v : RunView} (hsch : s.scheduleAt c = some v.sch) :
    s.Runs c (s.commandStage c v) := by
  have taken : ∀ cmd rest, ((s.chamber c).state = .running ∨ (s.chamber c).state = .held) →
      s.Runs c ((s.setChamber c { s.chamber c with queue := rest }).carryOut c v cmd) := by
    intro cmd rest hs
    have hkept : s.Kept (s.setChamber c { s.chamber c with queue := rest }) := kept_setChamber rfl rfl rfl fun h => by
      obtain ⟨h1, h2, h3, h4, h5, h6⟩ := h
      exact ⟨h1, h2, h3, h4, h5, fun _ => by obtain h | h := hs <;> simp [h, ChamberState.inRun]⟩
    refine (hkept.runs c).trans (carryOut_runs cmd ((hkept.scheduleAt c).trans hsch) ?_)
    rwa [(hkept.chambers c).1]
  unfold State.commandStage
  simp only
  split
  · rename_i cmd rest h _
    exact taken cmd rest (.inl h)
  · rename_i cmd rest h _
    exact taken cmd rest (.inr h)
  · exact .refl

theorem runStage_runs {s : State} {c : ChamberNo} {v : RunView} (loaded : Nat) (hsch : s.scheduleAt c = some v.sch)
    (hs : (s.chamber c).state = .running) : s.Runs c (s.runStage c v loaded) := by
  have ramped : ∀ (t : State) (st : Step), t.Kept (t.modChamber c (Chamber.ramped loaded st)) := fun t st =>
    kept_setChamber rfl rfl rfl id
  have hdwell : s.Kept (s.modChamber c fun x => { x with dwell := satAdd Config.maxCount x.dwell loaded }) :=
    kept_setChamber rfl rfl rfl id
  have hstate := (hdwell.chambers c).1.trans hs
  unfold State.runStage
  simp only
  refine (hdwell.runs c).trans ?_
  split
  · split
    · rename_i st hst
      refine (stepChange_runs ((hdwell.scheduleAt c).trans hsch) hst ?_).trans
        (((kept_offer _ c _).trans (ramped _ st)).runs c)
      rw [hstate]; rfl
    · refine (intoCooling_runs v.sch.coolTemp ?_).trans (coolingEvents_runs _ _ (intoCooling_state _ c _))
      rw [hstate]; rfl
  · exact (ramped _ _).runs c

theorem coolingStage_runs {s : State} {c : ChamberNo} (v : RunView) (loaded : Nat) (hs : (s.chamber c).state = .cooling) :
    s.Runs c (s.coolingStage c v loaded) := by
  have hdwell : s.Kept (s.modChamber c fun x => { x with dwell := satAdd Config.maxCount x.dwell loaded }) :=
    kept_setChamber rfl rfl rfl id
  unfold State.coolingStage
  simp only
  refine (hdwell.runs c).trans ?_
  split
  · exact complete_runs ((hdwell.chambers c).1.trans hs)
  · exact .refl

/-- The countdown is loaded in a chamber that counts. -/
theorem kept_loadCountdown {s : State} {c : ChamberNo} (hcn : (s.chamber c).state.counts = true) :
    s.Kept (s.modChamber c Chamber.loadCountdown) :=
  kept_setChamber rfl rfl rfl fun h => by
    obtain ⟨h1, h2, h3, h4⟩ := h
    exact ⟨h1, h2, by simp [Chamber.loadCountdown, hcn], h4⟩

theorem kept_countdownStage {s : State} {c : ChamberNo}
    (hs : (s.chamber c).state.counts = true ∨ (s.chamber c).state = .complete) : s.Kept (s.countdownStage c) := by
  unfold State.countdownStage
  split
  · exact .refl s
  · rename_i h
    exact kept_loadCountdown (hs.resolve_right (by simpa using h))

/-- A chamber in COOLING comes through the first three stages as it was: none of them has an effect but on its records. -/
theorem cooling_through_commandStage {s : State} {c : ChamberNo} (v : RunView) (hs : (s.chamber c).state = .cooling) :
    ((((s.statsStage c).countStage c).commandStage c v).chamber c).state = .cooling := by
  have hstats := ((kept_statsStage s c).chambers c).1.trans hs
  have hcount : (((s.statsStage c).countStage c).chamber c).state = .cooling := by
    unfold State.countStage
    simp [hstats]
  unfold State.commandStage
  simp [hcount]

theorem evaluate_runs {s : State} {c : ChamberNo} {v : RunView} (loaded : Nat) (hv : s.runView c = some v)
    (hcn : (s.chamber c).state.counts = true) : s.Runs c (s.evaluate c v loaded) := by
  obtain ⟨hsch, -, -⟩ := runView_some hv
  have hcounted : s.Runs c ((s.statsStage c).countStage c) := ((kept_statsStage s c).runs c).trans (countStage_runs _ c)
  have hserved : s.Runs c (((s.statsStage c).countStage c).commandStage c v) :=
    hcounted.trans (commandStage_runs ((hcounted.scheduleAt c).trans hsch))
  unfold State.evaluate
  simp only
  generalize hmanual : Chamber.servesManual _ = manual
  have hcool : (s.chamber c).state = .cooling →
      ((((s.statsStage c).countStage c).commandStage c v).chamber c).state = .cooling := cooling_through_commandStage v
  generalize ((s.statsStage c).countStage c).commandStage c v = served at hserved hcool
  have hrun : s.Runs c (if ((served.chamber c).state == .running && !manual) = true then served.runStage c v loaded
      else served) := by
    split
    · rename_i h
      simp only [Bool.and_eq_true, beq_iff_eq] at h
      exact hserved.trans (runStage_runs loaded ((hserved.scheduleAt c).trans hsch) h.1)
    · exact hserved
  have hcooled : s.Runs c (if ((s.chamber c).state == .cooling) = true then
      State.coolingStage c v loaded (if ((served.chamber c).state == .running && !manual) = true then
        served.runStage c v loaded else served)
      else if ((served.chamber c).state == .running && !manual) = true then served.runStage c v loaded else served) := by
    split
    · rename_i h
      have hs := hcool (by simpa using h)
      rw [if_neg (by simp [hs])]
      exact hserved.trans (coolingStage_runs v loaded hs)
    · exact hrun
  exact hcooled.trans ((kept_countdownStage (hcooled.underway (.inl hcn))).runs c)

end Sys2Proof.Machine
end

-- ==== Proofs: what a door and a power return change ====
section
/-! Chapters 5 and 10: accepted door changes, and the states chambers come back in with main power. -/

namespace Sys2Proof.Machine

/-! ### Accepted door changes -/

/-- A chamber in a run moves between its states and its door monitor with it: return state and hold are present in DOOR_HOLD. -/
theorem ran_door {s : State} {c : ChamberNo} {st : ChamberState} {ret : Option ReturnState} {d : DoorMonitor}
    (hs : (s.chamber c).state.inRun = true) (hst : st.inRun = true) (hret : ret.isSome ↔ st = .doorHold)
    (hhold : d.hold.isSome ↔ st = .doorHold) :
    s.Ran c id ((s.setChamber c { s.chamber c with state := st, returnState := ret }).setMonitor c d) := by
  have hcounts : ∀ x : ChamberState, x.inRun = true → x.counts = true ∧ x.bindsIn = some .inKiln ∧ x ≠ .cooling ∧
      x ≠ .empty ∧ x ≠ .loaded := by
    intro x hx
    cases x <;> simp_all [ChamberState.inRun, ChamberState.counts, ChamberState.bindsIn]
  obtain ⟨hsc, hsb, -, hse, hsl⟩ := hcounts _ hs
  obtain ⟨htc, htb, htn, hte, htl⟩ := hcounts st hst
  refine ran_record rfl ?_ (.inl ⟨hsc, rfl⟩) (htb.trans hsb.symm) (fun h => absurd h htn) (.inl htc)
  rintro ⟨h1, h2, h3, -, -, -⟩
  exact ⟨by simpa [hse, hte] using h1, by simpa [hse, hsl, hte, htl] using h2, by simpa [hsc, htc] using h3, hret, hhold,
    fun _ => hst⟩

theorem beginHold_runs {s : State} {c : ChamberNo} {ret : ReturnState} (hs : (s.chamber c).state.inRun = true) :
    s.Runs c (s.beginHold c ret) :=
  (State.Ran.runs (ran_door (d := { s.monitor c with hold := some ⟨0, false⟩ }) hs
      (st := .doorHold) (ret := some ret) rfl (by simp) (by simp))).trans
    (State.Kept.runs ((kept_modBound _ c (f := fun ch => { ch with
      doorOpenings := satAdd Config.maxShort ch.doorOpenings 1 }) fun _ => rfl).trans (kept_offer _ c (.doorOpen true))) c)

theorem opened_runs (s : State) (c : ChamberNo) : s.Runs c (s.opened c) := by
  unfold State.opened
  split
  · rename_i h; exact beginHold_runs (by rw [h]; rfl)
  · rename_i h; exact beginHold_runs (by rw [h]; rfl)
  all_goals exact (kept_offer s c _).runs c

/-- A chamber in a run comes out of its door hold to RUNNING or HELD. -/
theorem leaveHold_runs {s : State} {c : ChamberNo} {st : ChamberState} (hs : (s.chamber c).state.inRun = true)
    (hst : st = .running ∨ st = .held) :
    s.Runs c ((s.setMonitor c { s.monitor c with hold := none }).modChamber c fun x =>
      { x with state := st, returnState := none }) := by
  refine (ran_door (d := { s.monitor c with hold := none }) (ret := none) hs ?_ ?_ ?_).runs <;>
    obtain rfl | rfl := hst <;> simp [ChamberState.inRun]

theorem endHold_runs {s : State} {c : ChamberNo} {h : DoorHold} {ret : ChamberState} (hs : (s.chamber c).state = .doorHold)
    (hret : ret = .running ∨ ret = .held) : s.Runs c (s.endHold c h ret) := by
  have hsecs : s.Kept (s.modBound c fun ch =>
      { ch with doorSeconds := satAdd Config.maxCount ch.doorSeconds (h.openTime / 64) }) := kept_modBound s c fun _ => rfl
  have hrun : ((s.modBound c fun ch =>
      { ch with doorSeconds := satAdd Config.maxCount ch.doorSeconds (h.openTime / 64) }).chamber c).state.inRun = true := by
    rw [State.modBound_chamber, hs]; rfl
  unfold State.endHold
  simp only
  refine (hsecs.runs c).trans ?_
  split
  · exact (leaveHold_runs hrun (.inr rfl)).trans (State.Kept.runs
      ((((kept_mark _ c .doorLong).trans (kept_raise _ .held)).trans (kept_offer _ c _)).trans (kept_offer _ c _)) c)
  · exact (leaveHold_runs hrun hret).trans ((kept_offer _ c _).runs c)

theorem shut_runs (s : State) (c : ChamberNo) : s.Runs c (s.shut c) := by
  unfold State.shut
  split
  · rename_i h ret hs _ _
    refine endHold_runs hs ?_
    cases ret
    · exact .inl rfl
    · exact .inr rfl
  · exact (kept_offer s c _).runs c

theorem acceptDoor_runs (s : State) (c : ChamberNo) (level : DoorLevel) : s.Runs c (s.acceptDoor c level) := by
  have hset : s.Kept (s.setMonitor c { s.monitor c with door := level, debounce := none }) := kept_setMonitor rfl
  unfold State.acceptDoor
  cases level
  · exact (hset.runs c).trans (opened_runs _ c)
  · exact (hset.runs c).trans (shut_runs _ c)

theorem sampleDoor_runs (s : State) (c : ChamberNo) (level : DoorLevel) : s.Runs c (s.sampleDoor c level) := by
  have hset : ∀ b, s.Kept (s.setMonitor c { s.monitor c with input := level, debounce := b }) := fun _ => kept_setMonitor rfl
  unfold State.sampleDoor
  simp only
  split
  · exact (hset none).runs c
  · split
    · exact (hset _).runs c
    · split
      · exact ((hset _).runs c).trans (acceptDoor_runs _ c level)
      · exact (hset _).runs c

/-! ### The return of main power -/

theorem holdAtReturn_runs {s : State} {c : ChamberNo} (hs : (s.chamber c).state.inRun = true) :
    s.Runs c (s.holdAtReturn c) :=
  (State.Ran.runs (ran_door (d := { s.monitor c with hold := some ⟨0, false⟩ }) hs
      (st := .doorHold) (ret := some .held) rfl (by simp) (by simp))).trans
    ((kept_modBound _ c (f := fun ch => { ch with
      doorOpenings := satAdd Config.maxShort ch.doorOpenings 1 }) fun _ => rfl).runs c)

theorem endHoldAtReturn_runs {s : State} {c : ChamberNo} (hs : (s.chamber c).state.inRun = true) :
    s.Runs c (s.endHoldAtReturn c) := by
  unfold State.endHoldAtReturn
  simp only
  refine ((kept_modBound s c fun ch => ?_).runs c).trans (leaveHold_runs hs (.inr rfl))
  cases (s.monitor c).hold <;> simp only <;> split <;> rfl

theorem doorAtReturn_runs (s : State) (c : ChamberNo) : s.Runs c (s.doorAtReturn c) := by
  unfold State.doorAtReturn
  split
  · rename_i h _; exact holdResume_runs (.inr rfl) (.inl h)
  · rename_i h _; exact holdResume_runs (.inr rfl) (.inr h)
  · rename_i h _; exact holdAtReturn_runs (by rw [h]; rfl)
  · rename_i h _; exact holdAtReturn_runs (by rw [h]; rfl)
  · rename_i h _
    have hkept : s.Kept (s.modChamber c fun x => { x with returnState := some .held }) :=
      kept_setChamber rfl rfl rfl fun ⟨h1, h2, h3, _, h5⟩ => ⟨h1, h2, h3, by simp [h], h5⟩
    exact hkept.runs c
  · rename_i h _; exact endHoldAtReturn_runs (by rw [h]; rfl)
  all_goals exact .refl

/-- Countdowns and queues at a power return (R63, R70, R87). -/
theorem kept_atReturn (s : State) (c : ChamberNo) : s.Kept (s.modChamber c Chamber.atReturn) := by
  unfold State.modChamber Chamber.atReturn
  split
  · rename_i hcn
    refine kept_setChamber rfl rfl rfl fun ⟨h1, h2, h3, h4, h5, h6⟩ => ⟨h1, h2, ?_, h4, h5, fun h => absurd rfl h⟩
    simp [Chamber.loadCountdown, hcn]
  · exact kept_setChamber rfl rfl rfl fun ⟨h1, h2, h3, h4, h5, h6⟩ => ⟨h1, h2, h3, h4, h5, fun h => absurd rfl h⟩

theorem chamberReturn_runs (s : State) (c : ChamberNo) (level : DoorLevel) : s.Runs c (s.chamberReturn c level) := by
  have hset : s.Kept (s.setMonitor c { s.monitor c with input := level, door := level, debounce := none }) :=
    kept_setMonitor rfl
  unfold State.chamberReturn
  simp only
  refine ((hset.runs c).trans (doorAtReturn_runs _ c)).trans (State.Kept.runs ((kept_atReturn _ c).trans ?_) c)
  generalize State.modChamber c Chamber.atReturn _ = t
  have hmarked : t.Kept (if (s.chamber c).state.inRun then (t.modBound c (Charge.mark .powerHold)).raise .held else t) := by
    split
    · exact (kept_mark t c .powerHold).trans (kept_raise _ .held)
    · exact .refl t
  split
  · exact hmarked
  · exact hmarked.trans (kept_offer _ c _)

theorem powerReturn_changes (s : State) (d0 d1 d2 d3 : DoorLevel) {held : Prop} :
    State.Changes held s (s.powerReturn d0 d1 d2 d3) := by
  unfold State.powerReturn
  refine .trans (State.Kept.changes ?_) ((((chamberReturn_runs _ 0 d0).changes.trans (chamberReturn_runs _ 1 d1).changes).trans
    (chamberReturn_runs _ 2 d2).changes).trans (chamberReturn_runs _ 3 d3).changes)
  exact {}

/-! ### Emptied tables -/

theorem fieldsPresent_cleared (settings : Settings) {d : DoorMonitor} (h : d.hold = none) :
    (Chamber.cleared settings).FieldsPresent d := by
  simp [Chamber.FieldsPresent, Chamber.cleared, ChamberState.counts, h]

theorem emptied_cleared (s : State) (d0 d1 d2 d3 : DoorLevel) (vbat : Bool) (baud : Baud) :
    s.Emptied (State.cleared d0 d1 d2 d3 vbat baud s.pending) where
  schedules n := .inr (by simp [State.cleared])
  species i := .inr (by simp [State.cleared])
  chargeCounter := .inr rfl
  packCounter := .inr rfl
  chambers c := by
    have hx : (State.cleared d0 d1 d2 d3 vbat baud s.pending).chamber c = Chamber.cleared Settings.default := by
      simp [State.chamber, State.cleared]
    rw [hx]
    exact ⟨rfl, fieldsPresent_cleared _ (by fin_cases c <;> rfl)⟩
  charges k := by simp [State.charge, State.cleared]
  packs k := by simp [State.pack, State.cleared]

theorem emptied_clearReset (s : State) : s.Emptied s.clearReset where
  schedules n := .inl rfl
  species i := .inl rfl
  chargeCounter := .inl rfl
  packCounter := .inl rfl
  chambers c := by
    have hx : s.clearReset.chamber c = Chamber.cleared (s.chamber c).settings := by
      simp [State.chamber, State.clearReset]
    rw [hx]
    exact ⟨rfl, fieldsPresent_cleared _ (by simp [State.monitor, State.clearReset])⟩
  charges k := by simp [State.charge, State.clearReset]
  packs k := by simp [State.pack, State.clearReset]

theorem mainReturns_changes (s : State) (d0 d1 d2 d3 : DoorLevel) {held : Prop} :
    State.Changes held s (s.mainReturns d0 d1 d2 d3) := by
  unfold State.mainReturns
  split
  · exact powerReturn_changes s d0 d1 d2 d3
  · exact .single (.emptied (emptied_cleared s d0 d1 d2 d3 _ _))

theorem kept_portReset (s : State) : s.Kept s.portReset := by
  have hx : ∀ c, s.portReset.chamber c = (s.chamber c).queueEmptied := fun c => by simp [State.chamber, State.portReset]
  exact {
    chambers := fun c => by rw [hx]; exact ⟨rfl, rfl, rfl⟩
    fields := fun c ⟨h1, h2, h3, h4, h5, h6⟩ => by rw [hx]; exact ⟨h1, h2, h3, h4, h5, fun h => absurd rfl h⟩ }

end Sys2Proof.Machine
end

-- ==== Proofs: what every command changes ====
section
/-! Packs, draws, boards and the owners of the requests; then, said once for all 57 commands, what a command can do to the linked
records. -/

namespace Sys2Proof.Machine

/-! ### Packs and draws -/

theorem changes_ite {held : Prop} {s t : State} {p : Prop} [Decidable p] (h : State.Changes held s t) :
    State.Changes held s (if p then t else s) := by
  split
  · exact h
  · exact .refl

theorem closed_kept (p : Pack) (l : Label) : p.Kept (p.closed l) := ⟨rfl, .inr ⟨by simp [Pack.closed], rfl, rfl⟩⟩

theorem add_kept (p : Pack) (b : BoardRecord) : p.Kept (p.add b) := by
  unfold Pack.add
  cases b.mc <;> exact ⟨rfl, .inl ⟨Iff.rfl, rfl, rfl⟩⟩

theorem closePack_changes {s t : State} {cause : CloseCause} {k : Fin 16} {p : Pack} {held : Prop} (hk : s.pack k = some p)
    (h : s.closePack cause k p = some t) : State.Changes held s t := by
  obtain ⟨v, -, rfl⟩ := closePack_some h
  refine .trans (.single (.repacked hk (closed_kept p (labelOf cause s.clock p v)))) (State.Kept.changes ?_)
  exact (kept_modCharge (s.setPack k _) v.slot (f := Charge.packClosed p.number) fun _ => rfl).trans {}

/-- The packs after a close: the closed one is not OPEN, and the others stand. -/
theorem closePack_pack {s t : State} {cause : CloseCause} {k : Fin 16} {p : Pack} (h : s.closePack cause k p = some t)
    (j : Fin 16) : ∃ q, q.state ≠ .opened ∧ t.pack j = if k = j then some q else s.pack j := by
  obtain ⟨v, -, rfl⟩ := closePack_some h
  exact ⟨p.closed (labelOf cause s.clock p v), by simp [Pack.closed], pack_setPack s k j _⟩

theorem closeOpen_changes {s t : State} {cause : CloseCause} {held : Prop} (h : s.closeOpen cause = some t) :
    State.Changes held s t := by
  unfold State.closeOpen at h
  split at h
  · rename_i k p ho
    exact closePack_changes (openPack_some ho).1 h
  · cases h; exact .refl

theorem closeOpen_draw_fifo {s t : State} {cause : CloseCause} (h : s.closeOpen cause = some t) :
    t.draw = s.draw ∧ t.fifo = s.fifo := by
  unfold State.closeOpen at h
  split at h
  · obtain ⟨v, -, rfl⟩ := closePack_some h
    exact ⟨rfl, rfl⟩
  · cases h; exact ⟨rfl, rfl⟩

/-- After a close of the OPEN pack none is OPEN, for at most one was (R126). -/
theorem closeOpen_none_opened {s t : State} {cause : CloseCause} (hs : s.PacksHeld) (h : s.closeOpen cause = some t)
    (j : Fin 16) (q : Pack) (hq : t.pack j = some q) : q.state ≠ .opened := by
  unfold State.closeOpen at h
  split at h
  · rename_i k p ho
    obtain ⟨hk, hop⟩ := openPack_some ho
    obtain ⟨q', hq', hj⟩ := closePack_pack h j
    rw [hj] at hq
    split at hq
    · obtain rfl := Option.some.inj hq
      exact hq'
    · rename_i hkj
      exact fun hqo => hkj (hs.1 k j p hk q hq hop hqo)
  · rename_i ho
    cases h
    exact openPack_eq_none ho hq

theorem endDraw_changes {s t : State} {d : Draw} (hd : s.draw = some d) (hdue : s.drawEndDue = true)
    (h : s.endDraw d = some t) : State.Changes s.PacksHeld s t := by
  obtain ⟨u, hu, rfl⟩ := Option.map_eq_some_iff.1 h
  obtain ⟨hud, huf⟩ := closeOpen_draw_fifo hu
  have hf : ∀ b ∈ u.fifo, b.slot ≠ d.slot := by
    simp only [State.drawEndDue, hd, Bool.and_eq_true, List.all_eq_true, bne_iff_ne] at hdue
    rw [huf]; exact hdue.2
  refine ((closeOpen_changes hu).trans (.single (.drawEnded (hud.trans hd) hf fun hs => closeOpen_none_opened hs hu))).trans
    (State.Kept.changes ?_)
  exact (kept_raise _ .draw).trans (kept_checkBlocked _)

/-- The pack of a tally move stands in its slot, the FIFO as it was. -/
theorem packForMove_changes {s t : State} {b : BoardRecord} {k : Fin 16} {p : Pack} {held : Prop} (hb : b ∈ s.fifo)
    (h : s.packForMove b = some (t, k, p)) : State.Changes held s t ∧ t.pack k = some p ∧ t.fifo = s.fifo := by
  unfold State.packForMove at h
  split at h
  · rename_i k p ho
    cases h
    exact ⟨.refl, (openPack_some ho).1, rfl⟩
  · rename_i ho
    split at h
    · rename_i k ch hk hch
      cases h
      refine ⟨.trans (.single (.packOpened (ch := ch) ho (freePack_some hk) hb)) (State.Kept.changes ?_), ?_, rfl⟩
      · exact kept_modCharge _ b.slot fun _ => rfl
      · exact State.pack_setPack_same s k _
    · cases h

theorem addBoard_changes {s : State} {b : BoardRecord} {rest : List BoardRecord} {k : Fin 16} {p : Pack} {held : Prop}
    (hf : s.fifo = b :: rest) (hk : s.pack k = some p) : State.Changes held s (s.addBoard b rest k p) := by
  refine .trans (.single (.repacked hk (add_kept p b))) (.trans (.single (.moved (b := b) (rest := rest) hf)) ?_)
  exact State.Kept.changes {}

theorem moveBoard_changes {s t : State} {b : BoardRecord} {rest : List BoardRecord} {held : Prop} (hf : s.fifo = b :: rest)
    (h : s.moveBoard b rest = some t) : State.Changes held s t := by
  unfold State.moveBoard at h
  split at h
  · cases h
  · rename_i u k p hu
    obtain ⟨hsu, hk, hfu⟩ := packForMove_changes (hf ▸ List.mem_cons_self) hu
    have hadd : State.Changes held s { u.addBoard b rest k p with blocked := false } :=
      (hsu.trans (addBoard_changes (hfu.trans hf) hk)).trans (State.Kept.changes {})
    obtain ⟨w, hw, rfl⟩ := Option.map_eq_some_iff.1 h
    refine .trans ?_ (kept_checkBlocked w).changes
    split at hw
    · exact hadd.trans (closePack_changes (State.pack_setPack_same u k _) hw)
    · cases hw; exact hadd

theorem expireSilence_changes {s t : State} {x : Silence} {held : Prop} (h : s.expireSilence x = some t) :
    State.Changes held s t := by
  have hs : s.Kept { s with silence := none } := {}
  unfold State.expireSilence at h
  simp only at h
  split at h
  · cases h; exact hs.changes
  · rename_i k p ho
    have hu := hs.trans (kept_raise _ .idle)
    split at h
    · obtain ⟨w, hw, rfl⟩ := Option.map_eq_some_iff.1 h
      exact (hu.changes.trans (closePack_changes (openPack_some ho).1 hw)).trans (kept_checkBlocked w).changes
    · cases h; exact hu.changes

/-! ### Boards -/

theorem sequenceGap_le (last : Option Byte) (sequence : Byte) : (sequenceGap last sequence).1 ≤ 15 := by
  unfold sequenceGap
  split
  · exact Nat.zero_le _
  · dsimp only
    split
    · assumption
    · exact Nat.zero_le _

/-- A board of an ACTIVE draw (R109, R110): one grading, then auto-end. -/
theorem countAndDispose_graded {s : State} {d : Draw} {ch : Charge} {rem g : Nat} (b : Board) {held : Prop}
    (hd : s.draw = some d) (hk : s.charge d.slot = some ch) (hr : ch.remaining = some rem) (hg : g ≤ 15) :
    ∃ w v, s.Graded w d rem g v ∧ State.Changes held w (s.countAndDispose d ch rem g b).1 := by
  unfold State.countAndDispose
  simp only
  generalize (dispose ch s.plan s.fifo.length b).1 = v
  generalize hw : (if v = .pack then _ else _ : State) = w
  have hgraded : s.Graded w d rem g v := by
    have hrem : ∃ ch, s.charge d.slot = some ch ∧ ch.remaining = some rem := ⟨ch, hk, hr⟩
    split at hw
    · rename_i hv
      subst hw
      exact { charges := rfl, drawn := hd, remaining := hrem, gap := hg
              fifo := ⟨[b.record d.slot s.plan], rfl, by simp [Board.record], by simp [hv]⟩ }
    · rename_i hv
      subst hw
      exact { charges := rfl, drawn := hd, remaining := hrem, gap := hg
              fifo := ⟨[], (List.append_nil _).symm, by simp, by simp [hv]⟩ }
  exact ⟨w, v, hgraded, changes_ite (.single (.ending (hgraded.draw.trans hd)))⟩

theorem kept_closeGrading (s : State) (r : Reply) : s.Kept (s.closeGrading r) := {}

theorem grade_moves {s t : State} {b : Board} (h : s.grade b = some t) : s.Moves t := by
  unfold State.grade at h
  split at h
  · cases h; exact .changes (State.Kept.changes {})
  · unfold State.gradeNew at h
    simp only at h
    have hseq : s.Kept (if (sequenceGap s.lastSeq b.sequence).2 = true then s.raise .seq else s) := by
      split
      · exact kept_raise s .seq
      · exact .refl s
    generalize (if (sequenceGap s.lastSeq b.sequence).2 = true then s.raise .seq else s) = u at h hseq
    split at h
    · cases h; exact .changes (hseq.trans (kept_closeGrading u _)).changes
    · rename_i d hd
      split at h
      · cases h; exact .changes (hseq.trans (kept_closeGrading u _)).changes
      · split at h
        · cases h
        · rename_i ch hk
          split at h
          · cases h
          · rename_i rem hr
            obtain ⟨w, v, hw, hwt⟩ := countAndDispose_graded b (held := s.PacksHeld) hd hk hr (sequenceGap_le s.lastSeq b.sequence)
            cases h
            exact .grades hseq hw (hwt.trans ((kept_closeGrading _ _).trans (kept_checkBlocked _)).changes)

/-! ### Owners of requests -/

/-- What an owner answers, if it answers, is reached from `s` by changes. -/
def Leads (held : Prop) (s : State) (o : Owned) : Prop := ∀ t a, o = some (t, a) → State.Changes held s t

section
variable {held : Prop} {s t : State}

theorem leads_some {a : Answer} (h : State.Changes held s t) : Leads held s (some (t, a)) := by
  rintro _ _ ⟨⟩; exact h

theorem leads_took {results : List Byte} (h : State.Changes held s t) : Leads held s (took t results) := leads_some h

theorem leads_refuse {st : Status} : Leads held s (refuse st s) := leads_some .refl

theorem leads_refuseWith {st : Status} {results : List Byte} : Leads held s (refuseWith st results s) := leads_some .refl

theorem leads_none : Leads held s none := by rintro _ _ ⟨⟩

theorem leads_withChamber {b : Byte} {k : ChamberNo → State → Owned} (h : ∀ c, Leads held s (k c s)) :
    Leads held s (withChamber b k s) := by
  unfold withChamber
  split
  · exact h _
  · exact leads_refuse

theorem request_changes {r : Request} {p : Port} {tag : Byte} {owner : State → Owned} (ho : Leads held s (owner s))
    (h : request r p tag owner s = .next t) : State.Changes held s t := by
  obtain ⟨-, rfl⟩ | ⟨-, -, rfl⟩ | ⟨-, -, u, a, hu, rfl⟩ := request_next h
  · exact .refl
  · exact (kept_respond s p r.code tag _).changes
  · exact (ho u a hu).trans (kept_respond u p r.code tag a).changes

theorem loadOwner_leads (params : List Byte) : Leads held s (loadOwner params s) := by
  unfold loadOwner
  split
  · refine leads_withChamber fun c => ?_
    split
    · exact leads_refuse
    · rename_i hx
      split
      · exact leads_refuse
      · rename_i k ch hf
        split
        · exact leads_refuse
        · rename_i ha
          exact leads_took (.single (.bound (by simpa using hx) (chargeById_some hf).1 (by simpa using ha)))
  · exact leads_refuse

theorem startOwner_leads (origin : Port) (params : List Byte) : Leads held s (startOwner origin params s) := by
  unfold startOwner
  split
  · refine leads_withChamber fun c => ?_
    split
    · exact leads_refuse
    · rename_i hx
      split
      · exact leads_refuse
      · split
        · exact leads_none
        · rename_i sch hsch
          simp only
          split
          · exact leads_none
          · rename_i st hst
            have hu := kept_computeStats s c
            refine leads_took (hu.changes.trans (beginRun_runs ?_ ((hu.scheduleAt c).trans hsch) hst).changes)
            exact (hu.chambers c).1.trans (by simpa using hx)
  · exact leads_refuse

theorem abortOwner_leads (params : List Byte) : Leads held s (abortOwner params s) := by
  unfold abortOwner
  split
  · refine leads_withChamber fun c => ?_
    split
    · exact leads_refuse
    · rename_i hx
      split
      · exact leads_none
      · rename_i sch _
        exact leads_took (abortRun_runs sch (by simpa using hx)).changes
  · exact leads_refuse

theorem releaseOwner_leads (params : List Byte) : Leads held s (releaseOwner params s) := by
  unfold releaseOwner
  split
  · refine leads_withChamber fun c => ?_
    split
    · exact leads_refuse
    · rename_i st hst
      split
      · exact leads_none
      · rename_i k ch hk
        exact leads_took (.single (.unbound hst hk))
  · exact leads_refuse

theorem queueOwner_leads (cmd : RunCommand) (params : List Byte) : Leads held s (queueOwner cmd params s) := by
  unfold queueOwner
  split
  · refine leads_withChamber fun c => ?_
    simp only
    split
    · exact leads_refuse
    · rename_i hx
      split
      · exact leads_refuse
      · refine leads_some (State.Kept.changes (kept_setChamber rfl rfl rfl fun ⟨h1, h2, h3, h4, h5, _⟩ => ?_))
        exact ⟨h1, h2, h3, h4, h5, fun _ => by simpa using hx⟩
  · exact leads_refuse

theorem chamberSetOwner_leads (params : List Byte) : Leads held s (chamberSetOwner params s) := by
  unfold chamberSetOwner
  split
  · refine leads_withChamber fun c => ?_
    split
    · exact leads_refuseWith
    · exact leads_took (State.Kept.changes (kept_setChamber rfl rfl rfl id))
  · exact leads_refuse

theorem probeEnableOwner_leads (params : List Byte) : Leads held s (probeEnableOwner params s) := by
  unfold probeEnableOwner
  split
  · exact leads_withChamber fun c => leads_took (kept_setBank s c _).changes
  · exact leads_refuse

theorem checkOwner_leads (params : List Byte) : Leads held s (checkOwner params s) := by
  unfold checkOwner
  split
  · split
    · split
      · exact leads_refuse
      · split
        · exact leads_refuse
        · split
          · exact leads_some ((kept_setBank s _ _).trans (kept_offer _ _ _)).changes
          all_goals exact leads_refuse
    · exact leads_refuse
  · exact leads_refuse

theorem drawOwner_leads (params : List Byte) : Leads held s (drawOwner params s) := by
  unfold drawOwner
  split
  · split
    · exact leads_refuse
    · split
      · exact leads_refuse
      · rename_i hd
        split
        · exact leads_refuse
        · rename_i k ch hf
          split
          · exact leads_refuse
          · rename_i hr
            refine leads_took (.single (.drawn (by simpa using hd) (chargeById_some hf).1 (by simpa using hr)))
  · exact leads_refuse

theorem endDrawOwner_leads : Leads held s (endDrawOwner s) := by
  unfold endDrawOwner
  split
  · rename_i d hd
    split
    · exact leads_refuse
    · split
      · exact leads_none
      · exact leads_took (.single (.ending hd))
  · exact leads_refuse

theorem closePackOwner_leads : Leads held s (closePackOwner s) := by
  unfold closePackOwner
  split
  · exact leads_refuse
  · rename_i k p ho
    intro t a h
    obtain ⟨u, hu, he⟩ := Option.map_eq_some_iff.1 h
    obtain ⟨rfl, -⟩ := Prod.mk.inj he
    exact (closePack_changes (openPack_some ho).1 hu).trans (kept_checkBlocked u).changes

theorem packPlanOwner_leads (params : List Byte) : Leads held s (packPlanOwner params s) := by
  unfold packPlanOwner
  split
  · split
    · exact leads_refuseWith
    · exact leads_took (State.Kept.changes {})
  · exact leads_refuse

theorem createCharge_leads (species : Fin 8) (schedule : Fin 16) (declared parent : Nat) :
    Leads held s (createCharge species schedule declared parent s) := by
  unfold createCharge
  split
  · exact leads_refuse
  · rename_i k hk
    split
    · exact leads_refuseWith
    · rename_i sch hsch
      split
      · exact leads_refuseWith
      · rename_i curve hcurve
        split
        · exact leads_refuse
        · exact leads_took (.single (.created (freeChargeSlot_free hk) hsch hcurve))

theorem newChargeOwner_leads (params : List Byte) : Leads held s (newChargeOwner params s) := by
  unfold newChargeOwner
  split
  · split
    · simp only
      split
      · exact createCharge_leads _ _ _ _
      · exact leads_refuse
    · exact leads_refuse
  · exact leads_refuse

theorem deleteChargeOwner_leads (params : List Byte) : Leads held s (deleteChargeOwner params s) := by
  unfold deleteChargeOwner
  split
  · split
    · exact leads_refuse
    · rename_i k ch hf
      split
      · rename_i hst
        exact leads_took (.single (.deleted (chargeById_some hf).1 (by simpa using hst)))
      · exact leads_refuse
  · exact leads_refuse

theorem kept_stepWritten (s : State) (p : Port) (count : Nat) : s.Kept (s.stepWritten p count) := {}

theorem writeStagingOwner_leads (p : Port) (params : List Byte) : Leads held s (writeStagingOwner p params s) := by
  have hset : ∀ sg, s.Kept { s with staging := sg } := fun _ => {}
  unfold writeStagingOwner
  split
  · split
    · exact leads_took ((hset _).trans (kept_stepWritten _ p 13)).changes
    · exact leads_refuse
  · split
    · exact leads_took ((hset _).trans (kept_stepWritten _ p 13)).changes
    · exact leads_refuse

theorem writeSpeciesOwner_leads (p : Port) (params : List Byte) : Leads held s (writeSpeciesOwner p params s) := by
  unfold writeSpeciesOwner
  split
  · exact leads_refuse
  · rename_i sp hp
    simp only
    split
    · exact leads_refuseWith
    · rename_i hv
      split
      · exact leads_refuse
      · exact leads_took (.trans (.single (.speciesWritten (species_valid hp hv))) (kept_stepWritten _ p 8).changes)

theorem writeOwner_leads (p : Port) (params : List Byte) : Leads held s (writeOwner p params s) := by
  unfold writeOwner
  split
  · exact writeStagingOwner_leads p params
  · exact writeSpeciesOwner_leads p params
  all_goals exact leads_refuse

theorem commitScheduleOwner_leads (params : List Byte) : Leads held s (commitScheduleOwner params s) := by
  unfold commitScheduleOwner
  split
  · split
    · exact leads_refuse
    · split
      · exact leads_refuseWith
      · rename_i hv
        split
        · exact leads_refuse
        · rename_i hu
          exact leads_took (.single (.scheduled (by simpa using hu) fun sch h => Option.some.inj h ▸ committed_valid hv))
  · exact leads_refuse

theorem clearScheduleOwner_leads (params : List Byte) : Leads held s (clearScheduleOwner params s) := by
  unfold clearScheduleOwner
  split
  · split
    · exact leads_refuse
    · split
      · exact leads_refuse
      · rename_i hu
        exact leads_took (.single (.scheduled (by simpa using hu) fun sch h => by simp at h))
  · exact leads_refuse

/-- The packs of the label queue stand in their slots (R143). -/
theorem oldestInQueue_some {st : PackState} {k : Fin 16} {p : Pack} (h : s.oldestInQueue st = some (k, p)) :
    s.pack k = some p ∧ p.state = st := by
  obtain ⟨j, -, hj⟩ := List.exists_of_findSome?_eq_some h
  cases hc : s.pack j with
  | none => simp [hc] at hj
  | some x =>
    simp only [hc] at hj
    split at hj
    · rename_i ho
      simp only [Option.some.injEq, Prod.mk.injEq] at hj
      obtain ⟨rfl, rfl⟩ := hj
      exact ⟨hc, by simpa using ho⟩
    · cases hj

theorem nextLabelOwner_leads : Leads held s (nextLabelOwner s) := by
  unfold nextLabelOwner
  split
  · exact leads_some .refl
  · rename_i k p hf
    obtain ⟨hk, hst⟩ := oldestInQueue_some hf
    split
    · exact leads_none
    · exact leads_took (.single (.repacked hk ⟨rfl, .inl ⟨by simp [hst], rfl, rfl⟩⟩))

theorem ackLabelOwner_leads (params : List Byte) : Leads held s (ackLabelOwner params s) := by
  unfold ackLabelOwner
  split
  · simp only
    split
    · exact leads_refuse
    · split
      · exact leads_refuse
      · split
        · exact leads_refuse
        · exact leads_took (.trans (.single .freed) (State.Kept.changes {}))
  · exact leads_refuse

theorem reprintOwner_leads (params : List Byte) : Leads held s (reprintOwner params s) := by
  unfold reprintOwner
  split
  · simp only
    split
    · exact leads_refuse
    · split
      · exact leads_refuse
      · split
        · exact leads_none
        · exact leads_took .refl
  · exact leads_refuse

theorem setTimeOwner_leads (params : List Byte) : Leads held s (setTimeOwner params s) := by
  unfold setTimeOwner
  split
  · exact leads_took (State.Kept.changes {})
  · exact leads_refuse

theorem setCursorOwner_leads (p : Port) (params : List Byte) : Leads held s (setCursorOwner p params s) := by
  unfold setCursorOwner
  split
  · split
    · split
      · exact leads_took (kept_setPort s p _).changes
      · exact leads_refuse
    · exact leads_refuse
  · exact leads_refuse

theorem readOwner_leads (p : Port) : Leads held s (readOwner p s) := by
  unfold readOwner
  simp only
  split
  · exact leads_some .refl
  · exact leads_took (kept_setPort s p _).changes

theorem readNoticesOwner_leads (p : Port) : Leads held s (readNoticesOwner p s) := leads_took (kept_setPort s p _).changes

theorem setNoticeMaskOwner_leads (p : Port) (params : List Byte) : Leads held s (setNoticeMaskOwner p params s) := by
  unfold setNoticeMaskOwner
  split
  · simp only
    split
    · exact leads_refuse
    · exact leads_took (kept_setPort s p _).changes
  · exact leads_refuse

theorem markOwner_leads (origin : Port) (params : List Byte) : Leads held s (markOwner origin params s) := by
  unfold markOwner
  split
  · refine leads_withChamber fun c => ?_
    simp only
    split
    all_goals exact leads_some (kept_offer s c _).changes
  · exact leads_refuse

/-! ### Probe frames -/

theorem kept_probeFaulted (s : State) (c : ChamberNo) (slot : Nat) (cause : Option FaultCause) :
    s.Kept (s.probeFaulted c slot cause) := (kept_raise s .probe).trans (kept_offer _ c _)

theorem kept_sampleReading {c : ChamberNo} {i : Fin 16} {code : Nat} (h : sampleReading c i code s = some t) : s.Kept t := by
  unfold sampleReading at h
  simp only at h
  split at h
  · cases h; exact kept_setBank s c _
  · split at h
    · cases h
      split
      · exact kept_setBank s c _
      · exact (kept_setBank s c _).trans (kept_probeFaulted _ c _ _)
    · obtain ⟨sp, -, rfl⟩ := Option.map_eq_some_iff.1 h
      exact kept_setBank s c _

theorem kept_dryBulbReading (s : State) (c : ChamberNo) (code : Nat) : s.Kept (dryBulbReading c code s) := by
  unfold dryBulbReading
  simp only
  split
  · exact kept_setBank s c _
  · split
    · split
      · exact kept_setBank s c _
      · exact (kept_setBank s c _).trans (kept_probeFaulted _ c _ _)
    · exact kept_setBank s c _

theorem kept_takeReading {chamber channel code : Nat} (h : takeReading chamber channel code s = some t) : s.Kept t := by
  unfold takeReading at h
  split at h
  · split at h
    · exact kept_sampleReading h
    · split at h
      · cases h; exact kept_dryBulbReading s _ code
      · cases h; exact .refl s
  · cases h; exact .refl s

/-! ### Events -/

/-- What is only done while main power is on is done, or nothing is. -/
theorem whilePowered_changes {o : Host.Outcome State Fault Refusal} (ho : o = .next t → State.Changes held s t)
    (h : whilePowered s o = .next t) : State.Changes held s t := by
  unfold whilePowered at h
  split at h
  · exact ho h
  · cases h; exact .refl

theorem next_changes {u : State} (hu : State.Changes held s u) (h : Host.Outcome.next (φ := Fault) (ρ := Refusal) u = .next t) :
    State.Changes held s t := by
  cases h; exact hu

theorem orBroken_changes {o : Option State} (ho : o = some t → State.Changes held s t) (h : orBroken o = .next t) :
    State.Changes held s t :=
  ho (orBroken_eq_next.1 h)

theorem execUnknownRequest_changes {p : Port} {code tag : Byte} (h : execUnknownRequest p code tag s = .next t) :
    State.Changes held s t := by
  unfold execUnknownRequest at h
  split at h
  · cases h
  · split at h
    · cases h; exact (kept_respond s p code tag _).changes
    · cases h; exact .refl

theorem execProbeFrame_changes {chamber channel high low check : Byte}
    (h : execProbeFrame chamber channel high low check s = .next t) : State.Changes held s t := by
  have hs : s.Kept { s with probeRx := .hunt } := {}
  unfold execProbeFrame at h
  split at h
  · split at h
    · exact orBroken_changes (fun h => (hs.trans (kept_takeReading h)).changes) h
    · cases h; exact hs.changes
  · cases h; exact .refl

theorem execBoardFrame_moves {sequence mcHigh mcLow lengthHigh lengthLow check : Byte}
    (h : execBoardFrame sequence mcHigh mcLow lengthHigh lengthLow check s = .next t) : s.Moves t := by
  have hs : s.Kept { s with boardRx := .hunt } := {}
  unfold execBoardFrame at h
  split at h
  · split at h
    · have hm : { s with boardRx := .hunt }.Moves t := grade_moves (orBroken_eq_next.1 h)
      cases hm with
      | changes h => exact .changes (hs.changes.trans h)
      | grades h g h' => exact .grades (hs.trans h) g h'
    · cases h; exact .changes hs.changes
  · cases h; exact .changes .refl

theorem execTallyMove_changes (h : execTallyMove s = .next t) : State.Changes held s t := by
  refine whilePowered_changes (fun h => ?_) h
  split at h
  · split at h
    · rename_i b rest hf
      exact orBroken_changes (moveBoard_changes hf) h
    · cases h; exact .refl
  · cases h; exact .refl

theorem execDrawEnd_changes (h : execDrawEnd s = .next t) : State.Changes s.PacksHeld s t := by
  refine whilePowered_changes (fun h => ?_) h
  split at h
  · rename_i d hd
    split at h
    · rename_i hdue
      exact orBroken_changes (endDraw_changes hd hdue) h
    · cases h; exact .refl
  · cases h; exact .refl

theorem execLineSilenceExpiry_changes (h : execLineSilenceExpiry s = .next t) : State.Changes held s t := by
  refine whilePowered_changes (fun h => ?_) h
  split at h
  · split at h
    · exact orBroken_changes expireSilence_changes h
    · cases h; exact .refl
  · cases h; exact .refl

theorem execEvaluationInstant_changes {c : ChamberNo} (h : execEvaluationInstant c s = .next t) : State.Changes held s t := by
  refine whilePowered_changes (fun h => ?_) h
  split at h
  · rename_i d _
    split at h
    · rename_i hdue
      simp only [Bool.and_eq_true, decide_eq_true_eq] at hdue
      refine orBroken_changes (fun h => ?_) h
      obtain ⟨v, hv, rfl⟩ := Option.map_eq_some_iff.1 h
      exact (evaluate_runs d.loaded hv hdue.2).changes
    · cases h; exact .refl
  · cases h; exact .refl

theorem execDoorLimitPassed_changes {c : ChamberNo} (h : execDoorLimitPassed c s = .next t) : State.Changes held s t := by
  refine whilePowered_changes (next_changes (changes_ite ?_)) h
  exact ((kept_setMonitor (by simp)).trans (kept_raise _ .door)).changes

theorem execMillTimeWrap_changes (h : execMillTimeWrap s = .next t) : State.Changes held s t := by
  have hs : s.Kept { s with clock := ⟨0, 0, true⟩ } := {}
  refine next_changes (changes_ite ?_) h
  simp only
  split
  · exact hs.changes
  · exact (hs.trans (kept_raise _ .clock)).changes

theorem execVbatRangeChange_changes {inRange : Bool} (h : execVbatRangeChange inRange s = .next t) : State.Changes held s t := by
  refine next_changes ?_ h
  split <;> exact State.Kept.changes {}

end

/-! ### Every command -/

/-- Everything a command can do to the records that links, counts and numbers are about, command by command. -/
theorem exec_moves {i : Instr} {s t : State} (h : exec i s = .next t) : s.Moves t := by
  cases i with
  | boardFrame => exact execBoardFrame_moves h
  | load _ _ ps => exact .changes (request_changes (loadOwner_leads ps) h)
  | start p _ ps => exact .changes (request_changes (startOwner_leads p ps) h)
  | hold _ _ ps => exact .changes (request_changes (queueOwner_leads .hold ps) h)
  | resume _ _ ps => exact .changes (request_changes (queueOwner_leads .resume ps) h)
  | step _ _ ps => exact .changes (request_changes (queueOwner_leads .step ps) h)
  | skipPhase _ _ ps => exact .changes (request_changes (queueOwner_leads .skipPhase ps) h)
  | abort _ _ ps => exact .changes (request_changes (abortOwner_leads ps) h)
  | release _ _ ps => exact .changes (request_changes (releaseOwner_leads ps) h)
  | check _ _ ps => exact .changes (request_changes (checkOwner_leads ps) h)
  | probeEnable _ _ ps => exact .changes (request_changes (probeEnableOwner_leads ps) h)
  | chamberSet _ _ ps => exact .changes (request_changes (chamberSetOwner_leads ps) h)
  | draw _ _ ps => exact .changes (request_changes (drawOwner_leads ps) h)
  | endDraw => exact .changes (request_changes endDrawOwner_leads h)
  | closePack => exact .changes (request_changes closePackOwner_leads h)
  | newCharge _ _ ps => exact .changes (request_changes (newChargeOwner_leads ps) h)
  | deleteCharge _ _ ps => exact .changes (request_changes (deleteChargeOwner_leads ps) h)
  | writeStaging p _ ps => exact .changes (request_changes (writeOwner_leads p ps) h)
  | writeSpecies p _ ps => exact .changes (request_changes (writeOwner_leads p ps) h)
  | commitSchedule _ _ ps => exact .changes (request_changes (commitScheduleOwner_leads ps) h)
  | clearSchedule _ _ ps => exact .changes (request_changes (clearScheduleOwner_leads ps) h)
  | packPlan _ _ ps => exact .changes (request_changes (packPlanOwner_leads ps) h)
  | nextLabel => exact .changes (request_changes nextLabelOwner_leads h)
  | ackLabel _ _ ps => exact .changes (request_changes (ackLabelOwner_leads ps) h)
  | reprint _ _ ps => exact .changes (request_changes (reprintOwner_leads ps) h)
  | setTime _ _ ps => exact .changes (request_changes (setTimeOwner_leads ps) h)
  | setCursor p _ ps => exact .changes (request_changes (setCursorOwner_leads p ps) h)
  | read p => exact .changes (request_changes (readOwner_leads p) h)
  | readNotices p => exact .changes (request_changes (readNoticesOwner_leads p) h)
  | setNoticeMask p _ ps => exact .changes (request_changes (setNoticeMaskOwner_leads p ps) h)
  | status p => exact .changes (request_changes (owner := fun s => took s (s.statusResults p)) (leads_took .refl) h)
  | mark p _ ps => exact .changes (request_changes (markOwner_leads p ps) h)
  | unknownRequest => exact .changes (execUnknownRequest_changes h)
  | requestFrameCrcFail p => exact .changes (next_changes (changes_ite (kept_setRx s p _).changes) h)
  | portFrameBadLength p => exact .changes (next_changes (changes_ite (kept_setRx s p _).changes) h)
  | portFrameWindowExpiry p =>
    exact .changes (whilePowered_changes (next_changes (changes_ite (kept_setRx s p _).changes)) h)
  | responseSent p => exact .changes (whilePowered_changes (next_changes (changes_ite (kept_setRx s p _).changes)) h)
  | probeFrame => exact .changes (execProbeFrame_changes h)
  | probeFrameWindowExpiry =>
    exact .changes (whilePowered_changes (next_changes (changes_ite (State.Kept.changes {}))) h)
  | boardFrameWindowExpiry =>
    exact .changes (whilePowered_changes (next_changes (changes_ite (State.Kept.changes {}))) h)
  | tallyMove => exact .changes (execTallyMove_changes h)
  | drawEnd => exact .changes (execDrawEnd_changes h)
  | lineSilenceExpiry => exact .changes (execLineSilenceExpiry_changes h)
  | evaluationInstant => exact .changes (execEvaluationInstant_changes h)
  | doorInputChange c level =>
    exact .changes (whilePowered_changes (next_changes (sampleDoor_runs s c level).changes) h)
  | doorDebounceExpiry c =>
    exact .changes (whilePowered_changes (next_changes (changes_ite (acceptDoor_runs s c _).changes)) h)
  | doorLimitPassed => exact .changes (execDoorLimitPassed_changes h)
  | millTimeWrap => exact .changes (execMillTimeWrap_changes h)
  | vbatRangeChange => exact .changes (execVbatRangeChange_changes h)
  | mainPowerLoss => exact .changes (whilePowered_changes (next_changes (State.Kept.changes {})) h)
  | powerReturn d0 d1 d2 d3 =>
    refine .changes (next_changes ?_ h)
    split
    · exact .refl
    · exact mainReturns_changes s d0 d1 d2 d3
  | clearedStart d0 d1 d2 d3 =>
    refine .changes (next_changes ?_ h)
    split
    · exact .refl
    · exact mainReturns_changes s d0 d1 d2 d3
  | portReset => exact .changes (whilePowered_changes (next_changes (kept_portReset s).changes) h)
  | clearReset => exact .changes (whilePowered_changes (next_changes (.single (.emptied (emptied_clearReset s)))) h)
  | portStartByte p => exact .changes (whilePowered_changes (next_changes (changes_ite (kept_setRx s p _).changes)) h)
  | probeStartByte => exact .changes (whilePowered_changes (next_changes (changes_ite (State.Kept.changes {}))) h)
  | boardStartByte => exact .changes (whilePowered_changes (next_changes (changes_ite (State.Kept.changes {}))) h)

end Sys2Proof.Machine
end

-- ==== Proofs: a board graded ====
section
/-! A grading (R107 to R110) leaves every link whole and a sound state sound. -/

namespace Sys2Proof.Machine

/-- The core of a charge record without what a grading writes into it. -/
def Charge.gradeCore (ch : Charge) : Charge :=
  { ch.core with graded := 0, wet := 0, rejected := 0, unseen := 0, remaining := none, overrun := 0 }

theorem countBoard_gradeCore (g rem : Nat) (ch : Charge) : (ch.countBoard g rem).gradeCore = ch.gradeCore := by
  unfold Charge.countBoard
  dsimp only
  split <;> rfl

theorem countDisposition_gradeCore (v : Disposition) (ch : Charge) : (ch.countDisposition v).gradeCore = ch.gradeCore := by
  cases v <;> rfl

theorem countBoard_remaining_isSome (g rem : Nat) (ch : Charge) : (ch.countBoard g rem).remaining.isSome = true := by
  unfold Charge.countBoard
  dsimp only
  split <;> rfl

theorem countDisposition_remaining (v : Disposition) (ch : Charge) : (ch.countDisposition v).remaining = ch.remaining := by
  cases v <;> rfl

namespace State.Graded

variable {s t : State} {d : Draw} {rem g : Nat} {v : Disposition}

theorem chamber (h : s.Graded t d rem g v) (c : ChamberNo) : t.chamber c = s.chamber c := by
  rw [State.chamber, h.chambers, State.chamber]

theorem monitor (h : s.Graded t d rem g v) (c : ChamberNo) : t.monitor c = s.monitor c := by
  rw [State.monitor, h.doors, State.monitor]

theorem pack (h : s.Graded t d rem g v) (k : Fin 16) : t.pack k = s.pack k := by
  rw [State.pack, h.packs, State.pack]

/-- The charges after a grading: the drawn one counted, the others as they were. -/
theorem charge_eq_some (h : s.Graded t d rem g v) {j : Fin 8} {b : Charge} : t.charge j = some b ↔
    ∃ a, s.charge j = some a ∧ b = if d.slot = j then (a.countBoard g rem).countDisposition v else a := by
  have ht : t.charge j = (s.modCharge d.slot fun ch => (ch.countBoard g rem).countDisposition v).charge j := by
    rw [State.charge, h.charges, State.charge]
  rw [ht]
  exact mem_charge_modCharge

/-- A grading shows in no charge but in its counts, and leaves remaining present where it was. -/
theorem gradeCore_eq (h : s.Graded t d rem g v) {j : Fin 8} {a : Charge} (ha : s.charge j = some a) :
    (if d.slot = j then (a.countBoard g rem).countDisposition v else a).gradeCore = a.gradeCore ∧
      (if d.slot = j then (a.countBoard g rem).countDisposition v else a).remaining.isSome = a.remaining.isSome := by
  split
  · rename_i hj
    obtain ⟨ch, hch, hr⟩ := h.remaining
    subst hj
    obtain rfl := Option.some.inj (ha.symm.trans hch)
    rw [countDisposition_gradeCore, countBoard_gradeCore, countDisposition_remaining, countBoard_remaining_isSome, hr]
    exact ⟨rfl, rfl⟩
  · exact ⟨rfl, rfl⟩

theorem charge_before (h : s.Graded t d rem g v) {j : Fin 8} {b : Charge} (hb : t.charge j = some b) :
    ∃ a, s.charge j = some a ∧ b.gradeCore = a.gradeCore ∧ b.remaining.isSome = a.remaining.isSome := by
  obtain ⟨a, ha, rfl⟩ := h.charge_eq_some.1 hb
  exact ⟨a, ha, h.gradeCore_eq ha⟩

theorem charge_after (h : s.Graded t d rem g v) {j : Fin 8} {a : Charge} (ha : s.charge j = some a) :
    ∃ b, t.charge j = some b ∧ b.gradeCore = a.gradeCore :=
  ⟨_, h.charge_eq_some.2 ⟨a, ha, rfl⟩, (h.gradeCore_eq ha).1⟩

theorem charge_map {α : Type} (h : s.Graded t d rem g v) (j : Fin 8) {view : Charge → α}
    (hview : ∀ a b : Charge, b.gradeCore = a.gradeCore → view b = view a) : (t.charge j).map view = (s.charge j).map view := by
  cases ha : s.charge j with
  | some a =>
    obtain ⟨b, hb, he⟩ := h.charge_after ha
    rw [hb, Option.map_some, Option.map_some, hview a b he]
  | none =>
    cases hb : t.charge j with
    | none => rfl
    | some b =>
      obtain ⟨a, ha', -⟩ := h.charge_before hb
      simp [ha] at ha'

/-- R8, R61, R117: a grading leaves every link whole. -/
theorem linked (h : s.Graded t d rem g v) (hs : s.Linked) : t.Linked := by
  obtain ⟨hf, hx, hc, hd1, hd2, hd3⟩ := hs
  refine ⟨fun c => ?_, fun c k hk => ?_, fun k b hb => ?_, fun e he => ?_, fun k b hb hst => ?_, ?_⟩
  · rw [h.chamber, h.monitor]; exact hf c
  · rw [h.chamber] at hk ⊢
    obtain ⟨a, ha, hac, has⟩ := hx c k hk
    obtain ⟨b, hb, hcore⟩ := h.charge_after ha
    have hch : b.chamber = a.chamber := (congrArg Charge.chamber hcore :)
    have hst : b.state = a.state := (congrArg Charge.state hcore :)
    exact ⟨b, hb, hch.trans hac, hst ▸ has⟩
  · obtain ⟨a, ha, hcore, -⟩ := h.charge_before hb
    have hch : b.chamber = a.chamber := (congrArg Charge.chamber hcore :)
    have hst : b.state = a.state := (congrArg Charge.state hcore :)
    rw [hch, hst]
    simp only [h.chamber]
    exact hc k a ha
  · rw [h.draw] at he
    obtain ⟨a, ha, hst⟩ := hd1 e he
    obtain ⟨b, hb, hcore⟩ := h.charge_after ha
    exact ⟨b, hb, (congrArg Charge.state hcore :).trans hst⟩
  · obtain ⟨a, ha, hcore, -⟩ := h.charge_before hb
    rw [h.draw]
    exact hd2 k a ha ((congrArg Charge.state hcore :).symm.trans hst)
  · obtain ⟨r, hr, hslot, -⟩ := h.fifo
    rw [hr, h.draw]
    intro b hb
    obtain hb | hb := List.mem_append.1 hb
    · exact hd3 b hb
    · exact ⟨d, h.drawn, (hslot b hb).symm⟩

/-- A grading leaves a sound state sound. -/
theorem sound (h : s.Graded t d rem g v) (hs : s.Sound) : t.Sound where
  linked := h.linked hs.linked
  recordsValid := by rw [State.RecordsValid, h.schedules, h.species]; exact hs.recordsValid
  recordsHeld := recordsHeld_iff.2 fun k b hb => by
    obtain ⟨a, ha, hcore, -⟩ := h.charge_before hb
    have hst : b.state = a.state := (congrArg Charge.state hcore :)
    have hsc : b.schedule = a.schedule := (congrArg Charge.schedule hcore :)
    have hsp : b.species = a.species := (congrArg Charge.species hcore :)
    simpa only [State.Names, h.schedules, h.species, hst, hsc, hsp] using recordsHeld_iff.1 hs.recordsHeld k a ha
  onAStep := onAStep_of_same hs.onAStep h.schedules fun c _ =>
    ⟨h.chamber c, fun k _ => h.charge_map k fun _ _ he => (congrArg Charge.schedule he :)⟩
  historyPresent := by
    obtain ⟨hw, hcool⟩ := historyPresent_iff.1 hs.historyPresent
    refine historyPresent_iff.2 ⟨fun k b hb => ?_, coolingFinal_of_same hcool fun c _ =>
      ⟨h.chamber c, fun k _ => h.charge_map k fun _ _ he => (congrArg Charge.finalStats he :)⟩⟩
    obtain ⟨a, ha, hcore, hr⟩ := h.charge_before hb
    have hst : b.state = a.state := (congrArg Charge.state hcore :)
    have hfi : b.finalStats = a.finalStats := (congrArg Charge.finalStats hcore :)
    have het : b.endTime = a.endTime := (congrArg Charge.endTime hcore :)
    have hst' : b.startTime = a.startTime := (congrArg Charge.startTime hcore :)
    rw [Charge.HistoryWhole, hst, hfi, het, hst', hr]
    exact hw k a ha
  packsHeld := by
    obtain ⟨hone, hp⟩ := hs.packsHeld
    refine ⟨fun i j p hi q hj => ?_, fun i p hi => ?_⟩
    · rw [h.pack] at hi hj; exact hone i j p hi q hj
    · rw [h.pack] at hi; rw [h.draw]; exact hp i p hi
  pendingWellFormed := by rw [State.PendingWellFormed, h.pending]; exact hs.pendingWellFormed

end State.Graded

/-! ### Steps -/

/-- A property that every change keeps is kept by changes one after another. -/
theorem State.Changes.keeps {held : Prop} {P : State → Prop} (hP : ∀ s t, State.Change held s t → P s → P t) {s t : State}
    (h : State.Changes held s t) (hs : P s) : P t := by
  induction h with
  | refl => exact hs
  | tail _ h ih => exact hP _ _ h ih

/-- A property that every change and every grading keeps is kept by every command. -/
theorem State.Moves.keeps {P : State → Prop} (hP : ∀ held s t, State.Change held s t → P s → P t)
    (hG : ∀ s t d rem g v, State.Graded s t d rem g v → P s → P t) {s t : State} (h : s.Moves t) (hs : P s) : P t := by
  cases h with
  | changes h => exact h.keeps (hP _) hs
  | grades h hg h' => exact h'.keeps (hP _) (hG _ _ _ _ _ _ hg (hP s.PacksHeld _ _ (.kept h) hs))

theorem State.Kept.sound {s t : State} (h : s.Kept t) (hs : s.Sound) : t.Sound :=
  State.Change.sound (held := True) trivial (.kept h) hs

theorem State.Changes.sound {held : Prop} {s t : State} (h : State.Changes held s t) (hh : held) (hs : s.Sound) : t.Sound :=
  h.keeps (P := State.Sound) (fun _ _ h hs => h.sound hh hs) hs

theorem State.Moves.sound {s t : State} (h : s.Moves t) (hs : s.Sound) : t.Sound := by
  cases h with
  | changes h => exact h.sound hs.packsHeld hs
  | grades h hg h' => exact h'.sound hs.packsHeld (hg.sound (h.sound hs))

/-- A sound state stays sound with any queue of well-formed commands. -/
theorem State.Sound.of_pending {s : State} (hs : s.Sound) {queue : List Instr} (hq : ∀ i ∈ queue, i.wf = true) :
    { s with pending := queue }.Sound :=
  ⟨hs.linked, hs.recordsValid, hs.recordsHeld, hs.onAStep, hs.historyPresent, hs.packsHeld, hq⟩

/-- A sixty-fourth of a second changes nothing a link is about. -/
theorem kept_tickBackup (s : State) : s.Kept s.tickBackup := {}

theorem kept_tickMain (s : State) : s.Kept s.tickMain := by
  have hx : ∀ c, s.tickMain.chamber c = (s.chamber c).tick := fun c => by simp [State.chamber, State.tickMain]
  have hm : ∀ c, s.tickMain.monitor c = (s.monitor c).tick := fun c => by simp [State.monitor, State.tickMain]
  exact {
    chambers := fun c => by rw [hx]; exact ⟨rfl, rfl, rfl⟩
    fields := fun c ⟨h1, h2, h3, h4, h5, h6⟩ => by
      rw [hx, hm]
      exact ⟨h1, h2, by simpa [Chamber.tick] using h3, h4, by simpa [DoorMonitor.tick, Chamber.tick] using h5, h6⟩ }

/-- What the part does when no command waits is a change that no link is about, but for the commands it queues. -/
theorem idle_eq (s : State) : ∃ u queue, s.Kept u ∧ s.idle = { u with pending := queue } := by
  unfold State.idle
  split
  · unfold State.tick
    dsimp only
    split
    · exact ⟨_, _, (kept_tickBackup s).trans (kept_tickMain _), rfl⟩
    · exact ⟨_, _, kept_tickBackup s, rfl⟩
  · exact ⟨s, _, .refl s, rfl⟩

/-- Everything a step can do: the front command's moves on the state without it, or a change that no link is about. -/
theorem step_next {s t : State} (h : step s = .next t) :
    (∃ i rest, s.pending = i :: rest ∧ exec i { s with pending := rest } = .next t) ∨ s.pending = [] ∧ t = s.idle := by
  unfold step at h
  split at h
  · rename_i i rest hp
    exact .inl ⟨i, rest, hp, h⟩
  · rename_i hp
    cases h
    exact .inr ⟨hp, rfl⟩

/-- A property that does not read the queue, and that every change and every grading keeps, is kept by every step. -/
theorem step_keeps {P : State → Prop} (hq : ∀ s q, P s → P { s with pending := q })
    (hP : ∀ held s t, State.Change held s t → P s → P t)
    (hG : ∀ s t d rem g v, State.Graded s t d rem g v → P s → P t) {s t : State} (h : step s = .next t) (hs : P s) : P t := by
  obtain ⟨i, rest, -, h⟩ | ⟨-, rfl⟩ := step_next h
  · exact (exec_moves h).keeps hP hG (hq s rest hs)
  · obtain ⟨u, queue, hu, he⟩ := idle_eq s
    rw [he]
    exact hq u queue (hP True s u (.kept hu) hs)

/-- Settles O56: each kind of change, and a grading, leaves every link whole. -/
theorem linksKept : Obligations.LinksKept := fun _ _ h hs =>
  step_keeps (P := State.Linked) (fun _ _ h => h) (fun _ _ _ h hs => h.linked hs) (fun _ _ _ _ _ _ h hs => h.linked hs) h hs

end Sys2Proof.Machine
end

-- ==== Proofs: numbers stay distinct ====
section
/-! R2, R124, R128: only NEW-CHARGE and the opening of a pack give a number, and each gives one that no record carries. -/

namespace Sys2Proof.Machine

/-! ### Charge IDs -/

/-- Charges that come from charges with the same ID, slot by slot, keep their IDs distinct. -/
theorem idsDistinct_of_before {s t : State} (hs : s.IdsDistinct)
    (hcounter : t.chargeCounter = s.chargeCounter ∨ t.chargeCounter = 1)
    (h : ∀ k b, t.charge k = some b → ∃ a, s.charge k = some a ∧ b.id = a.id) : t.IdsDistinct := by
  obtain ⟨hrange, hid, hone⟩ := hs
  refine ⟨?_, fun k b hb => ?_, fun j k a ha b hb hab => ?_⟩
  · obtain he | he := hcounter
    · rw [he]; exact hrange
    · rw [he]; omega
  · obtain ⟨a, ha, he⟩ := h k b hb
    rw [he]; exact hid k a ha
  · obtain ⟨a', ha', hea⟩ := h j a ha
    obtain ⟨b', hb', heb⟩ := h k b hb
    exact hone j k a' ha' b' hb' (hea.symm.trans (hab.trans heb))

theorem id_before_modCharge {s : State} {k : Fin 8} {f : Charge → Charge} (hf : ∀ ch, (f ch).id = ch.id) (j : Fin 8)
    (b : Charge) (hb : (s.modCharge k f).charge j = some b) : ∃ a, s.charge j = some a ∧ b.id = a.id := by
  obtain ⟨a, ha, rfl⟩ := mem_charge_modCharge.1 hb
  refine ⟨a, ha, ?_⟩
  split
  · exact hf a
  · rfl

theorem State.Change.idsDistinct {held : Prop} {s t : State} (h : s.Change held t) (hs : s.IdsDistinct) : t.IdsDistinct := by
  cases h with
  | kept h =>
    refine idsDistinct_of_before hs (.inl h.chargeCounter) fun k b hb => ?_
    obtain ⟨a, ha, hcore⟩ := h.charge_before hb
    exact ⟨a, ha, (congrArg Charge.id hcore :)⟩
  | @ran _ c f h =>
    refine idsDistinct_of_before hs (.inl h.chargeCounter) fun k b hb => ?_
    rw [h.charges k, Option.map_eq_some_iff] at hb
    obtain ⟨a, ha, rfl⟩ := hb
    refine ⟨a, ha, ?_⟩
    split
    · exact (congrArg Charge.id (h.core a) :)
    · rfl
  | created hk =>
    rename_i k species schedule sch curve declared parent _ _
    obtain ⟨⟨h1, h2⟩, hid, hone⟩ := hs
    obtain ⟨hfresh, hn1, hn2⟩ := assignedId_fresh h1 h2 ⟨k, hk⟩
    have hcharge : ∀ {j b}, (s.setCharge k (some (Charge.created s.assignedId species schedule sch declared parent))).charge j =
        some b → k = j ∧ b.id = s.assignedId ∨ k ≠ j ∧ s.charge j = some b := by
      intro j b hb
      rw [charge_setCharge] at hb
      split at hb
      · rename_i hkj
        exact .inl ⟨hkj, Option.some.inj hb ▸ rfl⟩
      · rename_i hkj
        exact .inr ⟨hkj, hb⟩
    refine ⟨nextNumber_mem_range _, fun j b hb => ?_, fun i j a ha b hb hab => ?_⟩
    · obtain ⟨-, he⟩ | ⟨-, hb⟩ := hcharge hb
      · rw [he]; exact ⟨hn1, hn2⟩
      · exact hid j b hb
    · obtain ⟨hi, hia⟩ | ⟨-, ha⟩ := hcharge ha <;> obtain ⟨hj, hjb⟩ | ⟨-, hb⟩ := hcharge hb
      · exact hi.symm.trans hj
      · exact absurd (hab.symm.trans hia) (hfresh j b hb)
      · exact absurd (hab.trans hjb) (hfresh i a ha)
      · exact hone i j a ha b hb hab
  | @deleted k ch hk hst =>
    refine idsDistinct_of_before hs (.inl rfl) fun j b hb => ?_
    rw [charge_setCharge] at hb
    split at hb
    · simp at hb
    · exact ⟨b, hb, rfl⟩
  | bound | unbound | drawn | moved => exact idsDistinct_of_before hs (.inl rfl) (id_before_modCharge fun _ => rfl)
  | drawEnded => exact idsDistinct_of_before hs (.inl rfl) (id_before_modCharge planed_id)
  | ending | packOpened | repacked | freed | scheduled | speciesWritten => exact hs
  | emptied h => exact idsDistinct_of_before hs h.chargeCounter fun k b hb => by simp [h.charges k] at hb

theorem State.Graded.idsDistinct {s t : State} {d : Draw} {rem g : Nat} {v : Disposition} (h : s.Graded t d rem g v)
    (hs : s.IdsDistinct) : t.IdsDistinct := by
  refine idsDistinct_of_before hs (.inl h.chargeCounter) fun k b hb => ?_
  obtain ⟨a, ha, hcore, -⟩ := h.charge_before hb
  exact ⟨a, ha, (congrArg Charge.id hcore :)⟩

/-! ### Pack numbers -/

/-- Packs that come from packs with the same number, slot by slot, keep their numbers distinct. -/
theorem packNumbersDistinct_of_before {s t : State} (hs : s.PackNumbersDistinct)
    (hcounter : t.packCounter = s.packCounter ∨ t.packCounter = 1)
    (h : ∀ k q, t.pack k = some q → ∃ p, s.pack k = some p ∧ q.number = p.number) : t.PackNumbersDistinct := by
  obtain ⟨hrange, hnum, hone⟩ := hs
  refine ⟨?_, fun k q hq => ?_, fun j k a ha b hb hab => ?_⟩
  · obtain he | he := hcounter
    · rw [he]; exact hrange
    · rw [he]; omega
  · obtain ⟨p, hp, he⟩ := h k q hq
    rw [he]; exact hnum k p hp
  · obtain ⟨a', ha', hea⟩ := h j a ha
    obtain ⟨b', hb', heb⟩ := h k b hb
    exact hone j k a' ha' b' hb' (hea.symm.trans (hab.trans heb))

theorem State.Change.packNumbersDistinct {held : Prop} {s t : State} (h : s.Change held t) (hs : s.PackNumbersDistinct) :
    t.PackNumbersDistinct := by
  cases h with
  | kept h => exact packNumbersDistinct_of_before hs (.inl h.packCounter) fun k q hq => ⟨q, (h.pack k).symm.trans hq, rfl⟩
  | ran h =>
    refine packNumbersDistinct_of_before hs (.inl h.packCounter) fun k q hq => ⟨q, ?_, rfl⟩
    rwa [State.pack, h.packs] at hq
  | packOpened ho hk hb =>
    rename_i k b ch
    obtain ⟨⟨h1, h2⟩, hnum, hone⟩ := hs
    obtain ⟨hfresh, hn1, hn2⟩ := assignedPack_fresh h1 h2 ⟨k, hk⟩
    have hpack : ∀ {j q}, (s.setPack k (some (Pack.begun s.assignedPack b.slot ch s.plan s.stamp))).pack j = some q →
        k = j ∧ q.number = s.assignedPack ∨ k ≠ j ∧ s.pack j = some q := by
      intro j q hq
      rw [pack_setPack] at hq
      split at hq
      · rename_i hkj
        exact .inl ⟨hkj, Option.some.inj hq ▸ rfl⟩
      · rename_i hkj
        exact .inr ⟨hkj, hq⟩
    refine ⟨nextNumber_mem_range _, fun j q hq => ?_, fun i j p hp q hq hpq => ?_⟩
    · obtain ⟨-, he⟩ | ⟨-, hq⟩ := hpack hq
      · rw [he]; exact ⟨hn1, hn2⟩
      · exact hnum j q hq
    · obtain ⟨hi, hip⟩ | ⟨-, hp⟩ := hpack hp <;> obtain ⟨hj, hjq⟩ | ⟨-, hq⟩ := hpack hq
      · exact hi.symm.trans hj
      · exact absurd (hpq.symm.trans hip) (hfresh j q hq)
      · exact absurd (hpq.trans hjq) (hfresh i p hp)
      · exact hone i j p hp q hq hpq
  | @repacked k p q hk hkept =>
    refine packNumbersDistinct_of_before hs (.inl rfl) fun j x hx => ?_
    rw [pack_setPack] at hx
    split at hx
    · rename_i hkj
      subst hkj
      exact ⟨p, hk, Option.some.inj hx ▸ hkept.1⟩
    · exact ⟨x, hx, rfl⟩
  | @freed k =>
    refine packNumbersDistinct_of_before hs (.inl rfl) fun j x hx => ?_
    rw [pack_setPack] at hx
    split at hx
    · simp at hx
    · exact ⟨x, hx, rfl⟩
  | bound | unbound | created | deleted | drawn | ending | drawEnded | moved | scheduled | speciesWritten => exact hs
  | emptied h => exact packNumbersDistinct_of_before hs h.packCounter fun k q hq => by simp [h.packs k] at hq

theorem State.Graded.packNumbersDistinct {s t : State} {d : Draw} {rem g : Nat} {v : Disposition} (h : s.Graded t d rem g v)
    (hs : s.PackNumbersDistinct) : t.PackNumbersDistinct :=
  packNumbersDistinct_of_before hs (.inl h.packCounter) fun k q hq => ⟨q, (h.pack k).symm.trans hq, rfl⟩

/-- Settles O60: a number is only given by a search that ends at one no record carries, and no other change touches one. -/
theorem numbersKept : Obligations.NumbersKept := fun _ _ h =>
  ⟨step_keeps (P := State.IdsDistinct) (fun _ _ h => h) (fun _ _ _ h hs => h.idsDistinct hs)
      (fun _ _ _ _ _ _ h hs => h.idsDistinct hs) h,
    step_keeps (P := State.PackNumbersDistinct) (fun _ _ h => h) (fun _ _ _ h hs => h.packNumbersDistinct hs)
      (fun _ _ _ _ _ _ h hs => h.packNumbersDistinct hs) h⟩

end Sys2Proof.Machine
end

-- ==== Proofs: counts stay in agreement ====
section
/-! R17, R109: every board that is graded is counted once, as unseen, wet, rejected, packed or a FIFO record. -/

namespace Sys2Proof.Machine

/-- R17, R109 for one charge with `n` FIFO records, its count within the range of R5. -/
def Charge.Counted (n : Nat) (ch : Charge) : Prop :=
  ch.graded = ch.packed + ch.wet + ch.rejected + ch.unseen + n ∧
  (∀ r ∈ ch.remaining, r = ch.declared - ch.graded ∧ ch.overrun = ch.graded - ch.declared) ∧
  (ch.remaining = none → ch.graded = 0 ∧ ch.overrun = 0) ∧
  ch.graded ≤ 4294967295

/-- The FIFO records of a charge slot. -/
def State.fifoCount (s : State) (k : Fin 8) : Nat := s.fifo.countP fun b => b.slot == k

/-- The counts of every charge agree and lie within the range of R5. -/
def State.CountsHeld (s : State) : Prop := ∀ k ch, s.charge k = some ch → ch.Counted (s.fifoCount k)

theorem State.CountsHeld.agree {s : State} (h : s.CountsHeld) : s.CountsAgree := fun k ch hk =>
  let ⟨h1, h2, h3, _⟩ := h k ch hk
  ⟨h1, h2, h3⟩

theorem countsHeld_of_agree {s : State} (htop : s.CountsBelowTop) (h : s.CountsAgree) : s.CountsHeld := fun k ch hk =>
  let ⟨h1, h2, h3⟩ := h k ch hk
  ⟨h1, h2, h3, (Nat.le_add_right _ _).trans (htop k ch hk)⟩

/-- Fields outside the core are no count. -/
theorem Charge.Counted.of_core {n : Nat} {a b : Charge} (h : a.Counted n) (hcore : b.core = a.core) : b.Counted n := by
  have : b.core.Counted n := hcore ▸ (show a.core.Counted n from h)
  exact this

/-- What a run writes into a charge is no count. -/
theorem Charge.Counted.of_runCore {n : Nat} {a b : Charge} (h : a.Counted n) (hcore : b.runCore = a.runCore) : b.Counted n := by
  have : b.runCore.Counted n := hcore ▸ (show a.runCore.Counted n from h)
  exact this

theorem Charge.Counted.planed {n : Nat} {a : Charge} (h : a.Counted n) : a.planed.Counted n := by
  obtain ⟨m, hm⟩ := planed_eq a
  rw [hm]
  exact h

/-- The counts step of a grading (R109), its board not yet disposed of: it counts as a FIFO record would. -/
theorem Charge.Counted.countBoard {n g rem : Nat} {ch : Charge} (h : ch.Counted n) (hr : ch.remaining = some rem)
    (hg : g ≤ 15) (htop : ch.graded + 16 ≤ 4294967295) : (ch.countBoard g rem).Counted (n + 1) := by
  obtain ⟨hsum, hrem, -, -⟩ := h
  obtain ⟨hleft, hover⟩ := hrem rem hr
  -- no count passes its top
  have hgraded : addCount ch.graded (g + 1) = ch.graded + (g + 1) := addCount_exact (by omega)
  have hunseen : addCount ch.unseen g = ch.unseen + g := addCount_exact (by omega)
  have hoverrun : addCount ch.overrun (g + 1 - rem) = ch.overrun + (g + 1 - rem) := addCount_exact (by omega)
  unfold Charge.countBoard
  simp only [hgraded, hunseen, hoverrun]
  split <;> simp [Charge.Counted, Charge.mark] <;> omega

/-- The disposition (R110) counts the board where it goes: in the FIFO, as wet or as rejected. -/
theorem Charge.Counted.countDisposition {n : Nat} {ch : Charge} (v : Disposition) (h : ch.Counted (n + 1)) :
    (ch.countDisposition v).Counted (n + if v = .pack then 1 else 0) := by
  obtain ⟨hsum, hrem, hnone, htop⟩ := h
  cases v with
  | pack => exact ⟨hsum, hrem, hnone, htop⟩
  | wet =>
    have hwet : addCount ch.wet 1 = ch.wet + 1 := addCount_exact (by omega)
    refine ⟨?_, hrem, hnone, htop⟩
    simp only [Charge.countDisposition, hwet, reduceCtorEq, if_false]
    omega
  | reject =>
    have hrejected : addCount ch.rejected 1 = ch.rejected + 1 := addCount_exact (by omega)
    refine ⟨?_, hrem, hnone, htop⟩
    simp only [Charge.countDisposition, hrejected, reduceCtorEq, if_false]
    omega

/-- A board that leaves the FIFO is counted as packed (R129). -/
theorem Charge.Counted.addPacked {n : Nat} {ch : Charge} (b : BoardRecord) (h : ch.Counted (n + 1)) :
    (ch.addPacked b).Counted n := by
  obtain ⟨hsum, hrem, hnone, htop⟩ := h
  have hpacked : addCount ch.packed 1 = ch.packed + 1 := addCount_exact (by omega)
  refine ⟨?_, hrem, hnone, htop⟩
  simp only [Charge.addPacked, hpacked]
  omega

/-- A new charge has no board. -/
theorem counted_created {id declared parent : Nat} {species : Fin 8} {schedule : Fin 16} {sch : Schedule} :
    (Charge.created id species schedule sch declared parent).Counted 0 := by
  simp [Charge.Counted, Charge.created]

/-- A FREE slot has no FIFO record (R112). -/
theorem fifoCount_free {s : State} (hs : s.DrawHeld) {k : Fin 8} (hk : s.charge k = none) : s.fifoCount k = 0 := by
  obtain ⟨hd, -, hf⟩ := hs
  refine List.countP_eq_zero.2 fun b hb => ?_
  obtain ⟨d, hds, hslot⟩ := hf b hb
  obtain ⟨ch, hch, -⟩ := hd d hds
  rw [beq_iff_eq, ← hslot]
  rintro rfl
  simp [hk] at hch

/-- Charges whose counts agree before one slot changes and agree in that slot after it. -/
theorem countsHeld_modCharge {s : State} {k : Fin 8} {f : Charge → Charge} (hs : s.CountsHeld)
    (hf : ∀ ch, s.charge k = some ch → ch.Counted (s.fifoCount k) → (f ch).Counted (s.fifoCount k)) :
    (s.modCharge k f).CountsHeld := by
  intro j b hb
  obtain ⟨a, ha, rfl⟩ := mem_charge_modCharge.1 hb
  split
  · rename_i hkj
    subst hkj
    exact hf a ha (hs k a ha)
  · exact hs j a ha

theorem State.Change.countsHeld {held : Prop} {s t : State} (h : s.Change held t) (hs : s.Sound) (hc : s.CountsHeld) :
    t.CountsHeld := by
  cases h with
  | kept h =>
    intro k b hb
    obtain ⟨a, ha, hcore⟩ := h.charge_before hb
    rw [State.fifoCount, h.fifo]
    exact (hc k a ha).of_core hcore
  | @ran _ c f h =>
    intro k b hb
    rw [h.charges k, Option.map_eq_some_iff] at hb
    obtain ⟨a, ha, rfl⟩ := hb
    rw [State.fifoCount, h.fifo]
    split
    · exact (hc k a ha).of_runCore (h.core a)
    · exact hc k a ha
  | bound | unbound => exact countsHeld_modCharge hc fun _ _ h => h
  | @created k species schedule sch curve declared parent hk hsch hsp =>
    intro j b hb
    have hb : (s.setCharge k _).charge j = some b := hb
    rw [charge_setCharge] at hb
    split at hb
    · rename_i hkj
      obtain rfl := Option.some.inj hb
      subst hkj
      have hfree : s.fifoCount k = 0 := fifoCount_free hs.linked.2.2.2 hk
      show Charge.Counted (s.fifoCount k) _
      rw [hfree]
      exact counted_created
    · exact hc j b hb
  | @deleted k ch hk hst =>
    intro j b hb
    rw [charge_setCharge] at hb
    split at hb
    · simp at hb
    · exact hc j b hb
  | @drawn k ch auto hdn hk hr =>
    refine countsHeld_modCharge hc fun a ha ⟨hsum, _, hnone, htop⟩ => ?_
    obtain rfl := Option.some.inj (ha.symm.trans hk)
    obtain ⟨hw, -⟩ := historyPresent_iff.1 hs.historyPresent
    obtain ⟨-, -, hrem⟩ := hw k a hk
    obtain ⟨hgraded, hover⟩ := hnone (by simpa [hr] using hrem)
    exact ⟨hsum, by simp [hgraded, hover], by simp, htop⟩
  | drawEnded => exact countsHeld_modCharge hc fun _ _ h => h.planed
  | @moved b rest hf =>
    intro j x hx
    obtain ⟨a, ha, rfl⟩ := mem_charge_modCharge.1 hx
    have hcount : s.fifoCount j = rest.countP (fun b => b.slot == j) + if b.slot = j then 1 else 0 := by
      simp [State.fifoCount, hf, List.countP_cons]
    have := hc j a ha
    rw [hcount] at this
    split
    · rename_i hj
      rw [if_pos hj] at this
      exact this.addPacked b
    · rename_i hj
      rw [if_neg hj] at this
      exact this
  | ending | packOpened | repacked | freed | scheduled | speciesWritten => exact hc
  | emptied h =>
    intro k b hb
    simp [h.charges k] at hb

/-- A grading counts each of its boards once. -/
theorem State.Graded.countsHeld {s t : State} {d : Draw} {rem g : Nat} {v : Disposition} (h : s.Graded t d rem g v)
    (htop : s.CountsBelowTop) (hc : s.CountsHeld) : t.CountsHeld := by
  intro j b hb
  obtain ⟨r, hr, hslot, hlen⟩ := h.fifo
  obtain ⟨a, ha, rfl⟩ := h.charge_eq_some.1 hb
  have hcount : t.fifoCount j = s.fifoCount j + r.countP fun b => b.slot == j := by
    rw [State.fifoCount, hr, List.countP_append, State.fifoCount]
  rw [hcount]
  split
  · rename_i hj
    obtain ⟨ch, hch, hrem⟩ := h.remaining
    rw [hj] at hch
    obtain rfl := Option.some.inj (ha.symm.trans hch)
    have : r.countP (fun b => b.slot == j) = if v = .pack then 1 else 0 := by
      rw [← hlen, List.countP_eq_length]
      exact fun b hb => by rw [hslot b hb, hj, beq_self_eq_true]
    rw [this]
    exact ((hc j a ha).countBoard hrem h.gap (htop j a ha)).countDisposition v
  · rename_i hj
    have : r.countP (fun b => b.slot == j) = 0 :=
      List.countP_eq_zero.2 fun b hb => by rw [hslot b hb, beq_iff_eq]; exact hj
    rw [this]
    exact hc j a ha

theorem State.Kept.countsBelowTop {s t : State} (h : s.Kept t) (hs : s.CountsBelowTop) : t.CountsBelowTop := by
  intro k b hb
  obtain ⟨a, ha, hcore⟩ := h.charge_before hb
  have : b.graded = a.graded := (congrArg Charge.graded hcore :)
  rw [this]
  exact hs k a ha

/-- Changes one after another keep a sound state sound and its counts in agreement. -/
theorem State.Changes.countsHeld {held : Prop} {s t : State} (hh : held) (h : State.Changes held s t) (hs : s.Sound)
    (hc : s.CountsHeld) : t.CountsHeld := by
  have both : t.Sound ∧ t.CountsHeld :=
    h.keeps (P := fun s => s.Sound ∧ s.CountsHeld) (fun _ _ h ⟨hs, hc⟩ => ⟨h.sound hh hs, h.countsHeld hs hc⟩) ⟨hs, hc⟩
  exact both.2

theorem State.Moves.countsHeld {s t : State} (h : s.Moves t) (hs : s.Sound) (htop : s.CountsBelowTop) (hc : s.CountsHeld) :
    t.CountsHeld := by
  cases h with
  | changes h => exact h.countsHeld hs.packsHeld hs hc
  | grades h hg h' =>
    have hu := h.sound hs
    have huc := State.Change.countsHeld (held := s.PacksHeld) (.kept h) hs hc
    exact h'.countsHeld hs.packsHeld (hg.sound hu) (hg.countsHeld (h.countsBelowTop htop) huc)

/-- Settles O58: at most one grading in a step, and every change keeps the counts of every charge. -/
theorem countsKept : Obligations.CountsKept := by
  intro s t h hs htop hc
  have hc := countsHeld_of_agree htop hc
  obtain ⟨i, rest, hp, h⟩ | ⟨-, rfl⟩ := step_next h
  · have hs' := hs.of_pending (queue := rest) fun j hj => hs.pendingWellFormed j (hp ▸ List.mem_cons_of_mem i hj)
    exact ((exec_moves h).countsHeld hs' htop hc).agree
  · obtain ⟨u, queue, hu, he⟩ := idle_eq s
    rw [he]
    exact (State.Change.countsHeld (held := True) (.kept hu) hs hc).agree

end Sys2Proof.Machine
end

-- ==== Proofs: no step from a sound state stops ====
section
/-! Every link that a command reads leads to a record in a sound state (R7, R8, R27, R112, R126, R139), so each command answers;
and what it leaves is sound again. -/

namespace Sys2Proof.Machine

/-! ### Where the links lead -/

namespace State.Sound

variable {s : State}

/-- A chamber that is not EMPTY has its charge, in the state that goes with the chamber's. -/
theorem bound (hs : s.Sound) {c : ChamberNo} (hc : (s.chamber c).state ≠ .empty) :
    ∃ k ch, s.bound c = some (k, ch) ∧ s.charge k = some ch ∧ (s.chamber c).state.bindsIn = some ch.state := by
  obtain ⟨hf, hx, -, -⟩ := hs.linked
  obtain ⟨hslot, -⟩ := hf c
  obtain ⟨k, hk⟩ := Option.isSome_iff_exists.1 (hslot.2 hc)
  obtain ⟨ch, hch, -, hst⟩ := hx c k hk
  exact ⟨k, ch, bound_eq_some.2 ⟨hk, hch⟩, hch, hst⟩

/-- The species record of a bound charge is there (R28). -/
theorem speciesAt (hs : s.Sound) {c : ChamberNo} (hc : (s.chamber c).state ≠ .empty) : (s.speciesAt c).isSome = true := by
  obtain ⟨k, ch, hb, hch, -⟩ := hs.bound hc
  simpa only [State.speciesAt, hb] using (hs.recordsHeld k ch hch).2

/-- The schedule of a LOADED chamber's charge is there, for it is in use (R27). -/
theorem scheduleAt_loaded (hs : s.Sound) {c : ChamberNo} (hc : (s.chamber c).state = .loaded) :
    ∃ sch, s.scheduleAt c = some sch ∧ sch.Valid := by
  obtain ⟨k, ch, hb, hch, hst⟩ := hs.bound (c := c) (by simp [hc])
  have hloaded : ch.state = .loaded := by simpa [hc, ChamberState.bindsIn] using hst.symm
  obtain ⟨sch, hsch⟩ := Option.isSome_iff_exists.1 ((hs.recordsHeld k ch hch).1 (by rw [hloaded]; rfl))
  obtain ⟨hslot, -⟩ := bound_eq_some.1 hb
  exact ⟨sch, scheduleAt_eq_some.2 ⟨k, ch, hslot, hch, hsch⟩, hs.recordsValid.1 ch.schedule sch hsch⟩

/-- A chamber in a run or in COOLING has the step it is on (R78). -/
theorem runView (hs : s.Sound) {c : ChamberNo} (hc : (s.chamber c).state.counts = true) : (s.runView c).isSome = true := by
  obtain ⟨sch, i, hsch, hi, hlt⟩ := onAStep_iff.1 hs.onAStep c hc
  have hsch : ((s.bound c).bind fun kc => s.scheduleOf kc.2) = some sch := hsch
  simp [State.runView, hsch, hi, hlt]

/-- The charge of an ACTIVE draw is there, ON_LINE and with its history whole. -/
theorem drawn (hs : s.Sound) {d : Draw} (hd : s.draw = some d) :
    ∃ ch, s.charge d.slot = some ch ∧ ch.state = .onLine ∧ ch.HistoryWhole := by
  obtain ⟨-, -, -, hdraw, -⟩ := hs.linked
  obtain ⟨ch, hch, hst⟩ := hdraw d hd
  exact ⟨ch, hch, hst, (historyPresent_iff.1 hs.historyPresent).1 _ ch hch⟩

/-- A FIFO record's charge is there (R112). -/
theorem fifoCharge (hs : s.Sound) {b : BoardRecord} (hb : b ∈ s.fifo) : ∃ ch, s.charge b.slot = some ch := by
  obtain ⟨-, -, -, -, -, hfifo⟩ := hs.linked
  obtain ⟨d, hd, hslot⟩ := hfifo b hb
  obtain ⟨ch, hch, -⟩ := hs.drawn hd
  exact ⟨ch, hslot ▸ hch⟩

/-- The OPEN pack can be closed: its charge has all that a label takes (R126, R139). -/
theorem closePack (hs : s.Sound) {k : Fin 16} {p : Pack} (hk : s.pack k = some p) (ho : p.state = .opened)
    (cause : CloseCause) : (s.closePack cause k p).isSome = true := by
  obtain ⟨-, d, hd, hslot⟩ := (hs.packsHeld.2 k p hk).1 ho
  obtain ⟨ch, hch, hst, hpast, hstart, hrem⟩ := hs.drawn hd
  obtain ⟨hfinal, hend⟩ := hpast (by rw [hst]; rfl)
  obtain ⟨f, hf⟩ := Option.isSome_iff_exists.1 hfinal
  obtain ⟨e, he⟩ := Option.isSome_iff_exists.1 hend
  obtain ⟨a, ha⟩ := Option.isSome_iff_exists.1 (hstart (.inl (by rw [hst]; rfl)))
  obtain ⟨r, hr⟩ := Option.isSome_iff_exists.1 (hrem.2 (.inl hst))
  simp [State.closePack, State.closeView, hslot, hch, hf, he, ha, hr]

theorem closeOpen (hs : s.Sound) (cause : CloseCause) : (s.closeOpen cause).isSome = true := by
  unfold State.closeOpen
  split
  · rename_i k p ho
    obtain ⟨hk, hop⟩ := openPack_some ho
    exact hs.closePack hk hop cause
  · rfl

/-- A pack that is not OPEN has its label (R137). -/
theorem label (hs : s.Sound) {k : Fin 16} {p : Pack} (hk : s.pack k = some p) (ho : p.state ≠ .opened) :
    p.label.isSome = true := ((hs.packsHeld.2 k p hk).2 ho).1

end State.Sound

/-! ### The owners of requests -/

theorem counts_of_inRun {x : ChamberState} (h : x.inRun = true) : x.counts = true := by
  cases x with
  | running | held | doorHold => rfl
  | empty | loaded | cooling | complete => cases h

/-- An owner whose first parameter is a chamber answers where it answers for every chamber. -/
theorem withChamber_answers {b : Byte} {k : ChamberNo → State → Owned} {s : State} (h : ∀ c, (k c s).isSome = true) :
    (withChamber b k s).isSome = true := by
  unfold withChamber
  split
  · exact h _
  · rfl

/-- The entry step is a step of the schedule (R66). -/
theorem entryStep_lt {steps : List Step} (h : steps ≠ []) (stats : Stats) : entryStep steps stats < steps.length := by
  have hpos : 0 < steps.length := List.length_pos_iff.2 h
  unfold entryStep
  split
  · exact hpos
  · split
    · rename_i t ht
      exact (List.findIdx?_eq_some_iff_getElem.1 ht).1
    · omega

section
variable {s : State}

theorem startOwner_answers (hs : s.Sound) (origin : Port) (params : List Byte) : (startOwner origin params s).isSome = true := by
  unfold startOwner
  split
  · refine withChamber_answers fun c => ?_
    split
    · rfl
    · rename_i hx
      obtain ⟨sch, hsch, hvalid⟩ := hs.scheduleAt_loaded (c := c) (by simpa using hx)
      have hsch : ((s.bound c).bind fun kc => s.scheduleOf kc.2) = some sch := hsch
      have hne : sch.steps ≠ [] := List.length_pos_iff.1 (by have := hvalid.1.1; omega)
      have hlt := entryStep_lt hne ((s.computeStats c).chamber c).latest
      split
      · rfl
      · rw [hsch]
        dsimp only
        rw [List.getElem?_eq_getElem hlt]
        rfl
  · rfl

theorem abortOwner_answers (hs : s.Sound) (params : List Byte) : (abortOwner params s).isSome = true := by
  unfold abortOwner
  split
  · refine withChamber_answers fun c => ?_
    split
    · rfl
    · rename_i hx
      have hcn : (s.chamber c).state.counts = true := counts_of_inRun (by simpa using hx)
      obtain ⟨sch, -, hsch, -⟩ := onAStep_iff.1 hs.onAStep c hcn
      have hsch : ((s.bound c).bind fun kc => s.scheduleOf kc.2) = some sch := hsch
      rw [hsch]
      rfl
  · rfl

theorem releaseOwner_answers (hs : s.Sound) (params : List Byte) : (releaseOwner params s).isSome = true := by
  unfold releaseOwner
  split
  · refine withChamber_answers fun c => ?_
    split
    · rfl
    · rename_i st hst
      obtain ⟨k, ch, hb, -, -⟩ := hs.bound (c := c) (by rintro he; simp [he, ChamberState.releasesTo] at hst)
      simp [hb, took]
  · rfl

theorem endDrawOwner_answers (hs : s.Sound) : (endDrawOwner s).isSome = true := by
  unfold endDrawOwner
  split
  · rename_i d hd
    obtain ⟨ch, hch, -⟩ := hs.drawn hd
    split
    · rfl
    · simp [hch, took]
  · rfl

theorem closePackOwner_answers (hs : s.Sound) : (closePackOwner s).isSome = true := by
  unfold closePackOwner
  split
  · rfl
  · rename_i k p ho
    obtain ⟨hk, hop⟩ := openPack_some ho
    rw [Option.isSome_map]
    exact hs.closePack hk hop _

theorem nextLabelOwner_answers (hs : s.Sound) : (nextLabelOwner s).isSome = true := by
  unfold nextLabelOwner
  split
  · rfl
  · rename_i k p hf
    obtain ⟨hk, hst⟩ := oldestInQueue_some hf
    obtain ⟨l, hl⟩ := Option.isSome_iff_exists.1 (hs.label hk (by simp [hst]))
    simp [hl, took]

theorem reprintOwner_answers (hs : s.Sound) (params : List Byte) : (reprintOwner params s).isSome = true := by
  unfold reprintOwner
  split
  · simp only
    split
    · rfl
    · rename_i k p hf
      split
      · rfl
      · rename_i hst
        have hk : s.pack k = some p := by
          split at hf
          · cases hf
          · exact (packByNumber_some hf).1
        obtain ⟨l, hl⟩ := Option.isSome_iff_exists.1 (hs.label hk (by rintro he; simp [he] at hst))
        simp [hl, took]
  · rfl

/-! The other owners read no link: each of their branches is a refusal or an answer. -/

theorem loadOwner_answers (params : List Byte) : (loadOwner params s).isSome = true := by
  unfold loadOwner
  split
  · refine withChamber_answers fun c => ?_
    repeat' split
    all_goals rfl
  · rfl

theorem queueOwner_answers (cmd : RunCommand) (params : List Byte) : (queueOwner cmd params s).isSome = true := by
  unfold queueOwner
  split
  · refine withChamber_answers fun c => ?_
    dsimp only
    repeat' split
    all_goals rfl
  · rfl

theorem checkOwner_answers (params : List Byte) : (checkOwner params s).isSome = true := by
  unfold checkOwner
  repeat' split
  all_goals rfl

theorem probeEnableOwner_answers (params : List Byte) : (probeEnableOwner params s).isSome = true := by
  unfold probeEnableOwner
  split
  · exact withChamber_answers fun _ => rfl
  · rfl

theorem chamberSetOwner_answers (params : List Byte) : (chamberSetOwner params s).isSome = true := by
  unfold chamberSetOwner
  split
  · refine withChamber_answers fun c => ?_
    repeat' split
    all_goals rfl
  · rfl

theorem drawOwner_answers (params : List Byte) : (drawOwner params s).isSome = true := by
  unfold drawOwner
  repeat' split
  all_goals rfl

theorem newChargeOwner_answers (params : List Byte) : (newChargeOwner params s).isSome = true := by
  unfold newChargeOwner createCharge
  dsimp only
  repeat' split
  all_goals rfl

theorem deleteChargeOwner_answers (params : List Byte) : (deleteChargeOwner params s).isSome = true := by
  unfold deleteChargeOwner
  repeat' split
  all_goals rfl

theorem writeOwner_answers (p : Port) (params : List Byte) : (writeOwner p params s).isSome = true := by
  unfold writeOwner writeStagingOwner writeSpeciesOwner
  dsimp only
  repeat' split
  all_goals rfl

theorem commitScheduleOwner_answers (params : List Byte) : (commitScheduleOwner params s).isSome = true := by
  unfold commitScheduleOwner
  repeat' split
  all_goals rfl

theorem clearScheduleOwner_answers (params : List Byte) : (clearScheduleOwner params s).isSome = true := by
  unfold clearScheduleOwner
  repeat' split
  all_goals rfl

theorem packPlanOwner_answers (params : List Byte) : (packPlanOwner params s).isSome = true := by
  unfold packPlanOwner
  repeat' split
  all_goals rfl

theorem ackLabelOwner_answers (params : List Byte) : (ackLabelOwner params s).isSome = true := by
  unfold ackLabelOwner
  dsimp only
  repeat' split
  all_goals rfl

theorem setTimeOwner_answers (params : List Byte) : (setTimeOwner params s).isSome = true := by
  unfold setTimeOwner
  repeat' split
  all_goals rfl

theorem setCursorOwner_answers (p : Port) (params : List Byte) : (setCursorOwner p params s).isSome = true := by
  unfold setCursorOwner
  repeat' split
  all_goals rfl

theorem readOwner_answers (p : Port) : (readOwner p s).isSome = true := by
  unfold readOwner
  dsimp only
  repeat' split
  all_goals rfl

theorem setNoticeMaskOwner_answers (p : Port) (params : List Byte) : (setNoticeMaskOwner p params s).isSome = true := by
  unfold setNoticeMaskOwner
  dsimp only
  repeat' split
  all_goals rfl

theorem markOwner_answers (origin : Port) (params : List Byte) : (markOwner origin params s).isSome = true := by
  unfold markOwner
  split
  · refine withChamber_answers fun c => ?_
    dsimp only
    repeat' split
    all_goals rfl
  · rfl

end

/-! ### Events -/

/-- A command that answers a next state. -/
abbrev Proceeds (o : Host.Outcome State Fault Refusal) : Prop := ∃ t, o = .next t

section
variable {s : State}

theorem proceeds_next (t : State) : Proceeds (.next t) := ⟨t, rfl⟩

theorem whilePowered_proceeds {o : Host.Outcome State Fault Refusal} (h : Proceeds o) : Proceeds (whilePowered s o) := by
  unfold whilePowered
  split
  · exact h
  · exact ⟨s, rfl⟩

theorem orBroken_proceeds {o : Option State} (h : o.isSome = true) : Proceeds (orBroken o) :=
  let ⟨t, ht⟩ := Option.isSome_iff_exists.1 h
  ⟨t, orBroken_eq_next.2 ht⟩

/-- A request whose owner answers does not stop. -/
theorem request_proceeds {r : Request} {p : Port} {tag : Byte} {owner : State → Owned} (h : (owner s).isSome = true) :
    Proceeds (request r p tag owner s) := by
  by_contra hstop
  obtain ⟨-, -, hnone⟩ := request_stops_iff.1 fun t ht => hstop ⟨t, ht⟩
  simp [hnone] at h

/-- Only the codes in use name requests (R174). -/
theorem requestOfCode_unused {code : Byte} (h : codeInUse code = false) : requestOfCode code = none := by
  refine List.find?_eq_none.2 fun r _ hr => ?_
  rw [← eq_of_beq hr] at h
  cases r <;> simp [codeInUse, Request.code] at h

theorem execUnknownRequest_proceeds {p : Port} {code tag : Byte} (h : codeInUse code = false) :
    Proceeds (execUnknownRequest p code tag s) := by
  unfold execUnknownRequest
  rw [requestOfCode_unused h]
  split
  · contradiction
  · split <;> exact proceeds_next _

/-- A reading of a chamber that is not EMPTY finds the species of its charge (R40). -/
theorem takeReading_isSome (hs : s.Sound) (chamber channel code : Nat) : (takeReading chamber channel code s).isSome = true := by
  unfold takeReading
  split
  · split
    · unfold sampleReading
      dsimp only
      split
      · rfl
      · rename_i hx
        split
        · rfl
        · rw [Option.isSome_map]
          exact hs.speciesAt fun he => by simp [he] at hx
    · split <;> rfl
  · rfl

theorem execProbeFrame_proceeds (hs : s.Sound) (chamber channel high low check : Byte) :
    Proceeds (execProbeFrame chamber channel high low check s) := by
  unfold execProbeFrame
  split
  · split
    · have hu : s.Kept { s with probeRx := .hunt } := {}
      exact orBroken_proceeds (takeReading_isSome (hu.sound hs) _ _ _)
    · exact proceeds_next _
  · exact proceeds_next _

theorem gradeNew_isSome (hs : s.Sound) (b : Board) : (s.gradeNew b).isSome = true := by
  unfold State.gradeNew
  dsimp only
  have hseq : (if (sequenceGap s.lastSeq b.sequence).2 = true then s.raise .seq else s).Sound := by
    split
    · exact (kept_raise s .seq).sound hs
    · exact hs
  generalize (if (sequenceGap s.lastSeq b.sequence).2 = true then s.raise .seq else s) = u at hseq
  split
  · rfl
  · rename_i d hd
    split
    · rfl
    · obtain ⟨ch, hch, hst, -, -, hrem⟩ := hseq.drawn hd
      obtain ⟨r, hr⟩ := Option.isSome_iff_exists.1 (hrem.2 (.inl hst))
      simp only [hch, hr, Option.isSome_some]

theorem execBoardFrame_proceeds (hs : s.Sound) (sequence mcHigh mcLow lengthHigh lengthLow check : Byte) :
    Proceeds (execBoardFrame sequence mcHigh mcLow lengthHigh lengthLow check s) := by
  unfold execBoardFrame
  split
  · split
    · have hu : s.Kept { s with boardRx := .hunt } := {}
      refine orBroken_proceeds ?_
      unfold State.grade
      split
      · rfl
      · exact gradeNew_isSome (hu.sound hs) _
    · exact proceeds_next _
  · exact proceeds_next _

/-- A pack for the move: the OPEN one, or one opened in a FREE record for the charge of the FIFO record (R127, R128). -/
theorem packForMove_isSome (hs : s.Sound) {b : BoardRecord} (hb : b ∈ s.fifo) (hdue : s.moveDue = true) :
    (s.packForMove b).isSome = true := by
  simp only [State.moveDue, Bool.and_eq_true, Bool.or_eq_true] at hdue
  unfold State.packForMove
  split
  · rfl
  · rename_i ho
    obtain ⟨k, hk⟩ := Option.isSome_iff_exists.1 (hdue.2.resolve_left (by simp [ho]))
    obtain ⟨ch, hch⟩ := hs.fifoCharge hb
    simp only [hk, hch, Option.isSome_some]

/-- The pack of a tally move is OPEN. -/
theorem packForMove_opened {t : State} {b : BoardRecord} {k : Fin 16} {p : Pack} (h : s.packForMove b = some (t, k, p)) :
    p.state = .opened := by
  unfold State.packForMove at h
  split at h
  · rename_i ho
    cases h
    exact (openPack_some ho).2
  · split at h <;> cases h
    rfl

theorem add_state (b : BoardRecord) (p : Pack) : (p.add b).state = p.state := by
  unfold Pack.add
  cases b.mc <;> rfl

theorem moveBoard_isSome (hs : s.Sound) {b : BoardRecord} {rest : List BoardRecord} (hf : s.fifo = b :: rest)
    (hdue : s.moveDue = true) : (s.moveBoard b rest).isSome = true := by
  have hb : b ∈ s.fifo := hf ▸ List.mem_cons_self
  obtain ⟨⟨t, k, p⟩, hp⟩ := Option.isSome_iff_exists.1 (packForMove_isSome hs hb hdue)
  obtain ⟨hst, hk, hft⟩ := packForMove_changes (held := True) hb hp
  have hadd : State.Changes True s { t.addBoard b rest k p with blocked := false } :=
    (hst.trans (addBoard_changes (hft.trans hf) hk)).trans (State.Kept.changes {})
  unfold State.moveBoard
  simp only [hp, Option.isSome_map]
  split
  · exact (hadd.sound trivial hs).closePack (State.pack_setPack_same t k _) ((add_state b p).trans (packForMove_opened hp)) _
  · rfl

theorem execTallyMove_proceeds (hs : s.Sound) : Proceeds (execTallyMove s) := by
  refine whilePowered_proceeds ?_
  split
  · rename_i hdue
    split
    · rename_i hf
      exact orBroken_proceeds (moveBoard_isSome hs hf hdue)
    · exact proceeds_next s
  · exact proceeds_next s

theorem execDrawEnd_proceeds (hs : s.Sound) : Proceeds (execDrawEnd s) := by
  refine whilePowered_proceeds ?_
  split
  · split
    · refine orBroken_proceeds ?_
      rw [State.endDraw, Option.isSome_map]
      exact hs.closeOpen .drawEnd
    · exact proceeds_next s
  · exact proceeds_next s

theorem expireSilence_isSome (hs : s.Sound) (x : Silence) : (s.expireSilence x).isSome = true := by
  unfold State.expireSilence
  dsimp only
  split
  · rfl
  · rename_i k p ho
    obtain ⟨hk, hop⟩ := openPack_some ho
    have hu : s.Kept { s with silence := none } := {}
    split
    · rw [Option.isSome_map]
      exact ((hu.trans (kept_raise _ .idle)).sound hs).closePack hk hop _
    · rfl

theorem execLineSilenceExpiry_proceeds (hs : s.Sound) : Proceeds (execLineSilenceExpiry s) := by
  refine whilePowered_proceeds ?_
  split
  · split
    · exact orBroken_proceeds (expireSilence_isSome hs _)
    · exact proceeds_next s
  · exact proceeds_next s

theorem execEvaluationInstant_proceeds (hs : s.Sound) (c : ChamberNo) : Proceeds (execEvaluationInstant c s) := by
  refine whilePowered_proceeds ?_
  split
  · split
    · rename_i hdue
      simp only [Bool.and_eq_true] at hdue
      refine orBroken_proceeds ?_
      rw [Option.isSome_map]
      exact hs.runView hdue.2
    · exact proceeds_next s
  · exact proceeds_next s

/-! ### Every command -/

/-- From a sound state every well-formed command answers a next state. -/
theorem exec_proceeds {i : Instr} (hs : s.Sound) (hi : i.wf = true) : Proceeds (exec i s) := by
  cases i with
  | load _ _ ps => exact request_proceeds (loadOwner_answers ps)
  | start p _ ps => exact request_proceeds (startOwner_answers hs p ps)
  | hold _ _ ps => exact request_proceeds (queueOwner_answers .hold ps)
  | resume _ _ ps => exact request_proceeds (queueOwner_answers .resume ps)
  | step _ _ ps => exact request_proceeds (queueOwner_answers .step ps)
  | skipPhase _ _ ps => exact request_proceeds (queueOwner_answers .skipPhase ps)
  | abort _ _ ps => exact request_proceeds (abortOwner_answers hs ps)
  | release _ _ ps => exact request_proceeds (releaseOwner_answers hs ps)
  | check _ _ ps => exact request_proceeds (checkOwner_answers ps)
  | probeEnable _ _ ps => exact request_proceeds (probeEnableOwner_answers ps)
  | chamberSet _ _ ps => exact request_proceeds (chamberSetOwner_answers ps)
  | draw _ _ ps => exact request_proceeds (drawOwner_answers ps)
  | endDraw => exact request_proceeds (endDrawOwner_answers hs)
  | closePack => exact request_proceeds (closePackOwner_answers hs)
  | newCharge _ _ ps => exact request_proceeds (newChargeOwner_answers ps)
  | deleteCharge _ _ ps => exact request_proceeds (deleteChargeOwner_answers ps)
  | writeStaging p _ ps => exact request_proceeds (writeOwner_answers p ps)
  | writeSpecies p _ ps => exact request_proceeds (writeOwner_answers p ps)
  | commitSchedule _ _ ps => exact request_proceeds (commitScheduleOwner_answers ps)
  | clearSchedule _ _ ps => exact request_proceeds (clearScheduleOwner_answers ps)
  | packPlan _ _ ps => exact request_proceeds (packPlanOwner_answers ps)
  | nextLabel => exact request_proceeds (nextLabelOwner_answers hs)
  | ackLabel _ _ ps => exact request_proceeds (ackLabelOwner_answers ps)
  | reprint _ _ ps => exact request_proceeds (reprintOwner_answers hs ps)
  | setTime _ _ ps => exact request_proceeds (setTimeOwner_answers ps)
  | setCursor p _ ps => exact request_proceeds (setCursorOwner_answers p ps)
  | read p => exact request_proceeds (readOwner_answers p)
  | readNotices p => exact request_proceeds (owner := readNoticesOwner p) rfl
  | setNoticeMask p _ ps => exact request_proceeds (setNoticeMaskOwner_answers p ps)
  | status p => exact request_proceeds (owner := fun s => took s (s.statusResults p)) rfl
  | mark p _ ps => exact request_proceeds (markOwner_answers p ps)
  | unknownRequest => exact execUnknownRequest_proceeds (by simpa [Instr.wf] using hi)
  | probeFrame => exact execProbeFrame_proceeds hs _ _ _ _ _
  | boardFrame => exact execBoardFrame_proceeds hs _ _ _ _ _ _
  | tallyMove => exact execTallyMove_proceeds hs
  | drawEnd => exact execDrawEnd_proceeds hs
  | lineSilenceExpiry => exact execLineSilenceExpiry_proceeds hs
  | evaluationInstant c => exact execEvaluationInstant_proceeds hs c
  | requestFrameCrcFail | portFrameBadLength | millTimeWrap | vbatRangeChange | powerReturn | clearedStart =>
    exact proceeds_next _
  | portFrameWindowExpiry | responseSent | probeFrameWindowExpiry | boardFrameWindowExpiry | doorInputChange
  | doorDebounceExpiry | doorLimitPassed | mainPowerLoss | portReset | clearReset | portStartByte | probeStartByte
  | boardStartByte => exact whilePowered_proceeds (proceeds_next _)

/-! ### Steps -/

theorem ite_wf {p : Prop} [Decidable p] {i : Instr} (hi : i.wf = true) : ∀ j ∈ if p then [i] else [], j.wf = true := by
  split
  · exact List.forall_mem_singleton.2 hi
  · exact List.forall_mem_nil _

theorem dueNow_wf : ∀ i ∈ s.dueNow, i.wf = true := by
  unfold State.dueNow
  repeat' split
  all_goals simp [Instr.wf]

theorem expiries_wf : ∀ i ∈ s.expiries, i.wf = true := by
  simp only [State.expiries, List.forall_mem_append, List.forall_mem_map]
  refine ⟨⟨⟨⟨⟨⟨⟨⟨?_, ?_⟩, ?_⟩, ?_⟩, ?_⟩, fun _ _ => rfl⟩, fun _ _ => rfl⟩, fun _ _ => rfl⟩, ?_⟩
  case refine_6 =>
    split
    · exact ite_wf rfl
    · exact List.forall_mem_nil _
  all_goals exact ite_wf rfl

/-- The commands that the part queues itself are well formed. -/
theorem idle_pending_wf : ∀ i ∈ s.idle.pending, i.wf = true := by
  unfold State.idle
  split
  · have hwrap : ∀ i ∈ if s.clock.atEnd then [Instr.millTimeWrap] else [], i.wf = true := ite_wf rfl
    unfold State.tick
    dsimp only
    split
    · intro i hi
      exact (List.mem_append.1 hi).elim (hwrap i) (expiries_wf i)
    · exact hwrap
  · rename_i hd
    exact hd ▸ dueNow_wf

theorem idle_sound (hs : s.Sound) : s.idle.Sound := by
  have hwf := idle_pending_wf (s := s)
  obtain ⟨u, queue, hu, he⟩ := idle_eq s
  rw [he] at hwf ⊢
  exact (hu.sound hs).of_pending hwf

end

/-- Settles O57: in a sound state every link a command reads leads to a record, so every step answers, and its moves leave a
sound state. -/
theorem soundNeverStops : Obligations.SoundNeverStops := by
  intro s hs
  unfold Machine.step
  split
  · rename_i i rest hp
    have hwf := hs.pendingWellFormed
    rw [State.PendingWellFormed, hp, List.forall_mem_cons] at hwf
    have hs' := hs.of_pending hwf.2
    obtain ⟨t, ht⟩ := exec_proceeds hs' hwf.1
    exact ⟨t, ht, (exec_moves ht).sound hs'⟩
  · exact ⟨s.idle, rfl, idle_sound hs⟩

end Sys2Proof.Machine
end

-- ==== Proofs: what leaves the chambers alone ====
section
/-! The commands outside chapters 4, 5 and 10 leave every chamber record as it is. -/

namespace Sys2Proof.Machine

/-! ### What holds of an owner's answer -/

/-- Whatever state an owner answers with, if it answers, satisfies `P`. -/
def Answered (P : State → Prop) (o : Owned) : Prop := ∀ t a, o = some (t, a) → P t

section
variable {P : State → Prop} {s t : State}

theorem answered_some {a : Answer} (h : P t) : Answered P (some (t, a)) := by
  rintro _ _ ⟨⟩; exact h

theorem answered_none : Answered P none := by rintro _ _ ⟨⟩

theorem answered_withChamber {b : Byte} {k : ChamberNo → State → Owned} (hs : P s) (h : ∀ c, Answered P (k c s)) :
    Answered P (withChamber b k s) := by
  unfold withChamber
  split
  · exact h _
  · exact answered_some hs

/-- A request keeps what its owner keeps, when the response being sent does not bear on it. -/
theorem request_keeps {r : Request} {p : Port} {tag : Byte} {owner : State → Owned}
    (hP : ∀ u a, P u → P (State.respond p r.code tag a u)) (hs : P s) (ho : Answered P (owner s))
    (h : request r p tag owner s = .next t) : P t := by
  obtain ⟨-, rfl⟩ | ⟨-, -, rfl⟩ | ⟨-, -, u, a, hu, rfl⟩ := request_next h
  · exact hs
  · exact hP s _ hs
  · exact hP u a (ho u a hu)

theorem whilePowered_keeps {o : Host.Outcome State Fault Refusal} (hs : P s) (ho : o = .next t → P t)
    (h : whilePowered s o = .next t) : P t := by
  unfold whilePowered at h
  split at h
  · exact ho h
  · cases h; exact hs

theorem next_keeps {u : State} (hu : P u) (h : Host.Outcome.next (φ := Fault) (ρ := Refusal) u = .next t) : P t := by
  cases h; exact hu

theorem ite_keeps {p : Prop} [Decidable p] (ht : P t) (hs : P s) : P (if p then t else s) := by
  split
  · exact ht
  · exact hs

end

/-! ### Packs, draws and boards -/

section
variable {s t : State}

theorem checkBlocked_chambers (s : State) : s.checkBlocked.chambers = s.chambers := by
  obtain h | ⟨-, -, h⟩ := checkBlocked_cases s <;> rw [h]

theorem closePack_chambers {cause : CloseCause} {k : Fin 16} {p : Pack} (h : s.closePack cause k p = some t) :
    t.chambers = s.chambers := by
  obtain ⟨v, -, rfl⟩ := closePack_some h
  rfl

theorem closeOpen_chambers {cause : CloseCause} (h : s.closeOpen cause = some t) : t.chambers = s.chambers := by
  unfold State.closeOpen at h
  split at h
  · exact closePack_chambers h
  · cases h; rfl

theorem endDraw_chambers {d : Draw} (h : s.endDraw d = some t) : t.chambers = s.chambers := by
  obtain ⟨u, hu, rfl⟩ := Option.map_eq_some_iff.1 h
  rw [checkBlocked_chambers, ← closeOpen_chambers hu]
  rfl

theorem packForMove_chambers {b : BoardRecord} {k : Fin 16} {p : Pack} (h : s.packForMove b = some (t, k, p)) :
    t.chambers = s.chambers := by
  unfold State.packForMove at h
  split at h
  · cases h; rfl
  · split at h
    · cases h; rfl
    · cases h

theorem moveBoard_chambers {b : BoardRecord} {rest : List BoardRecord} (h : s.moveBoard b rest = some t) :
    t.chambers = s.chambers := by
  unfold State.moveBoard at h
  split at h
  · cases h
  · rename_i u k p hu
    obtain ⟨w, hw, rfl⟩ := Option.map_eq_some_iff.1 h
    rw [checkBlocked_chambers, ← packForMove_chambers hu]
    split at hw
    · rw [closePack_chambers hw]; rfl
    · cases hw; rfl

theorem expireSilence_chambers {x : Silence} (h : s.expireSilence x = some t) : t.chambers = s.chambers := by
  unfold State.expireSilence at h
  dsimp only at h
  split at h
  · cases h; rfl
  · split at h
    · obtain ⟨w, hw, rfl⟩ := Option.map_eq_some_iff.1 h
      rw [checkBlocked_chambers, closePack_chambers hw]; rfl
    · cases h; rfl

theorem countAndDispose_chambers (s : State) (d : Draw) (ch : Charge) (rem g : Nat) (b : Board) :
    (s.countAndDispose d ch rem g b).1.chambers = s.chambers := by
  unfold State.countAndDispose
  dsimp only
  split <;> split <;> rfl

theorem grade_chambers {b : Board} (h : s.grade b = some t) : t.chambers = s.chambers := by
  unfold State.grade at h
  split at h
  · cases h; rfl
  · unfold State.gradeNew at h
    dsimp only at h
    have hseq : (if (sequenceGap s.lastSeq b.sequence).2 = true then s.raise .seq else s).chambers = s.chambers := by
      split <;> rfl
    generalize (if (sequenceGap s.lastSeq b.sequence).2 = true then s.raise .seq else s) = u at h hseq
    rw [← hseq]
    split at h
    · cases h; rfl
    · split at h
      · cases h; rfl
      · split at h
        · cases h
        · split at h
          · cases h
          · cases h
            exact (checkBlocked_chambers _).trans (countAndDispose_chambers u _ _ _ _ b)

/-! ### Readings -/

theorem sampleReading_chambers {c : ChamberNo} {i : Fin 16} {code : Nat} (h : sampleReading c i code s = some t) :
    t.chambers = s.chambers := by
  unfold sampleReading at h
  dsimp only at h
  split at h
  · cases h; rfl
  · split at h
    · cases h
      split <;> rfl
    · obtain ⟨sp, -, rfl⟩ := Option.map_eq_some_iff.1 h
      rfl

theorem dryBulbReading_chambers (s : State) (c : ChamberNo) (code : Nat) : (dryBulbReading c code s).chambers = s.chambers := by
  unfold dryBulbReading
  dsimp only
  repeat' split
  all_goals rfl

theorem takeReading_chambers {chamber channel code : Nat} (h : takeReading chamber channel code s = some t) :
    t.chambers = s.chambers := by
  unfold takeReading at h
  split at h
  · split at h
    · exact sampleReading_chambers h
    · split at h
      · cases h; exact dryBulbReading_chambers s _ code
      · cases h; rfl
  · cases h; rfl

/-! ### Owners of requests -/

/-- What an owner answers, if it answers, has the chambers of `s`. -/
abbrev LeavesChambers (s : State) (o : Owned) : Prop := Answered (fun t => t.chambers = s.chambers) o

theorem closePackOwner_leavesChambers : LeavesChambers s (closePackOwner s) := by
  unfold closePackOwner
  split
  · exact answered_some rfl
  · intro t a h
    obtain ⟨u, hu, he⟩ := Option.map_eq_some_iff.1 h
    obtain ⟨rfl, -⟩ := Prod.mk.inj he
    exact (checkBlocked_chambers u).trans (closePack_chambers hu)

theorem endDrawOwner_leavesChambers : LeavesChambers s (endDrawOwner s) := by
  unfold endDrawOwner
  split
  · split
    · exact answered_some rfl
    · split
      · exact answered_none
      · exact answered_some rfl
  · exact answered_some rfl

theorem nextLabelOwner_leavesChambers : LeavesChambers s (nextLabelOwner s) := by
  unfold nextLabelOwner
  split
  · exact answered_some rfl
  · split
    · exact answered_none
    · exact answered_some rfl

theorem reprintOwner_leavesChambers (params : List Byte) : LeavesChambers s (reprintOwner params s) := by
  unfold reprintOwner
  split
  · dsimp only
    split
    · exact answered_some rfl
    · split
      · exact answered_some rfl
      · split
        · exact answered_none
        · exact answered_some rfl
  · exact answered_some rfl

/-! The other owners read no link: each of their branches answers with a state that has the same chambers. -/

theorem checkOwner_leavesChambers (params : List Byte) : LeavesChambers s (checkOwner params s) := by
  unfold checkOwner
  repeat' split
  all_goals exact answered_some rfl

theorem probeEnableOwner_leavesChambers (params : List Byte) : LeavesChambers s (probeEnableOwner params s) := by
  unfold probeEnableOwner
  split
  · exact answered_withChamber rfl fun _ => answered_some rfl
  · exact answered_some rfl

theorem drawOwner_leavesChambers (params : List Byte) : LeavesChambers s (drawOwner params s) := by
  unfold drawOwner
  repeat' split
  all_goals exact answered_some rfl

theorem newChargeOwner_leavesChambers (params : List Byte) : LeavesChambers s (newChargeOwner params s) := by
  unfold newChargeOwner createCharge
  dsimp only
  repeat' split
  all_goals exact answered_some rfl

theorem deleteChargeOwner_leavesChambers (params : List Byte) : LeavesChambers s (deleteChargeOwner params s) := by
  unfold deleteChargeOwner
  repeat' split
  all_goals exact answered_some rfl

theorem writeOwner_leavesChambers (p : Port) (params : List Byte) : LeavesChambers s (writeOwner p params s) := by
  unfold writeOwner writeStagingOwner writeSpeciesOwner
  dsimp only
  repeat' split
  all_goals exact answered_some rfl

theorem commitScheduleOwner_leavesChambers (params : List Byte) : LeavesChambers s (commitScheduleOwner params s) := by
  unfold commitScheduleOwner
  repeat' split
  all_goals exact answered_some rfl

theorem clearScheduleOwner_leavesChambers (params : List Byte) : LeavesChambers s (clearScheduleOwner params s) := by
  unfold clearScheduleOwner
  repeat' split
  all_goals exact answered_some rfl

theorem packPlanOwner_leavesChambers (params : List Byte) : LeavesChambers s (packPlanOwner params s) := by
  unfold packPlanOwner
  repeat' split
  all_goals exact answered_some rfl

theorem ackLabelOwner_leavesChambers (params : List Byte) : LeavesChambers s (ackLabelOwner params s) := by
  unfold ackLabelOwner
  dsimp only
  repeat' split
  all_goals exact answered_some rfl

theorem setTimeOwner_leavesChambers (params : List Byte) : LeavesChambers s (setTimeOwner params s) := by
  unfold setTimeOwner
  repeat' split
  all_goals exact answered_some rfl

theorem setCursorOwner_leavesChambers (p : Port) (params : List Byte) : LeavesChambers s (setCursorOwner p params s) := by
  unfold setCursorOwner
  repeat' split
  all_goals exact answered_some rfl

theorem readOwner_leavesChambers (p : Port) : LeavesChambers s (readOwner p s) := by
  unfold readOwner
  dsimp only
  split
  all_goals exact answered_some rfl

theorem setNoticeMaskOwner_leavesChambers (p : Port) (params : List Byte) :
    LeavesChambers s (setNoticeMaskOwner p params s) := by
  unfold setNoticeMaskOwner
  dsimp only
  repeat' split
  all_goals exact answered_some rfl

theorem markOwner_leavesChambers (origin : Port) (params : List Byte) : LeavesChambers s (markOwner origin params s) := by
  unfold markOwner
  split
  · refine answered_withChamber rfl fun c => ?_
    dsimp only
    split
    all_goals exact answered_some rfl
  · exact answered_some rfl

/-! ### Every command -/

/-- The commands that can change a chamber record: the requests and instants of chapter 4, the door changes of chapter 5, and the
resets and returns of main power of chapter 10. -/
def actsOnChambers : Instr → Bool
  | .load .. | .start .. | .hold .. | .resume .. | .step .. | .skipPhase .. | .abort .. | .release .. | .chamberSet ..
  | .evaluationInstant _ | .doorInputChange .. | .doorDebounceExpiry _ | .powerReturn .. | .clearedStart .. | .portReset
  | .clearReset => true
  | _ => false

theorem request_chambers {r : Request} {p : Port} {tag : Byte} {owner : State → Owned} (ho : LeavesChambers s (owner s))
    (h : request r p tag owner s = .next t) : t.chambers = s.chambers :=
  request_keeps (P := fun t => t.chambers = s.chambers) (fun _ _ h => h) rfl ho h

theorem whilePowered_chambers {o : Host.Outcome State Fault Refusal} (ho : o = .next t → t.chambers = s.chambers)
    (h : whilePowered s o = .next t) : t.chambers = s.chambers :=
  whilePowered_keeps (P := fun t => t.chambers = s.chambers) rfl ho h

/-- An event taken while main power is on that changes `s` where a test holds, and then to a state with the same chambers. -/
theorem whilePowered_ite_chambers {u : State} {p : Prop} [Decidable p]
    (h : whilePowered s (.next (if p then u else s)) = .next t) (hu : u.chambers = s.chambers) : t.chambers = s.chambers :=
  whilePowered_chambers (next_keeps (P := fun t => t.chambers = s.chambers)
    (ite_keeps (P := fun t => t.chambers = s.chambers) hu rfl)) h

theorem execUnknownRequest_chambers {p : Port} {code tag : Byte} (h : execUnknownRequest p code tag s = .next t) :
    t.chambers = s.chambers := by
  unfold execUnknownRequest at h
  split at h
  · cases h
  · split at h <;> cases h <;> rfl

theorem execProbeFrame_chambers {chamber channel high low check : Byte}
    (h : execProbeFrame chamber channel high low check s = .next t) : t.chambers = s.chambers := by
  unfold execProbeFrame at h
  split at h
  · split at h
    · rw [takeReading_chambers (orBroken_eq_next.1 h)]
    · cases h; rfl
  · cases h; rfl

theorem execBoardFrame_chambers {sequence mcHigh mcLow lengthHigh lengthLow check : Byte}
    (h : execBoardFrame sequence mcHigh mcLow lengthHigh lengthLow check s = .next t) : t.chambers = s.chambers := by
  unfold execBoardFrame at h
  split at h
  · split at h
    · rw [grade_chambers (orBroken_eq_next.1 h)]
    · cases h; rfl
  · cases h; rfl

theorem execTallyMove_chambers (h : execTallyMove s = .next t) : t.chambers = s.chambers := by
  refine whilePowered_chambers (fun h => ?_) h
  split at h
  · split at h
    · exact moveBoard_chambers (orBroken_eq_next.1 h)
    · cases h; rfl
  · cases h; rfl

theorem execDrawEnd_chambers (h : execDrawEnd s = .next t) : t.chambers = s.chambers := by
  refine whilePowered_chambers (fun h => ?_) h
  split at h
  · split at h
    · exact endDraw_chambers (orBroken_eq_next.1 h)
    · cases h; rfl
  · cases h; rfl

theorem execLineSilenceExpiry_chambers (h : execLineSilenceExpiry s = .next t) : t.chambers = s.chambers := by
  refine whilePowered_chambers (fun h => ?_) h
  split at h
  · split at h
    · exact expireSilence_chambers (orBroken_eq_next.1 h)
    · cases h; rfl
  · cases h; rfl

theorem execMillTimeWrap_chambers (h : execMillTimeWrap s = .next t) : t.chambers = s.chambers := by
  cases h
  split
  · dsimp only
    split <;> rfl
  · rfl

/-- The commands of the other chapters leave every chamber record as it is. -/
theorem exec_chambers {i : Instr} (hi : actsOnChambers i = false) (h : exec i s = .next t) : t.chambers = s.chambers := by
  cases i with
  | load | start | hold | resume | step | skipPhase | abort | release | chamberSet | evaluationInstant | doorInputChange
  | doorDebounceExpiry | powerReturn | clearedStart | portReset | clearReset => cases hi
  | check _ _ ps => exact request_chambers (checkOwner_leavesChambers ps) h
  | probeEnable _ _ ps => exact request_chambers (probeEnableOwner_leavesChambers ps) h
  | draw _ _ ps => exact request_chambers (drawOwner_leavesChambers ps) h
  | endDraw => exact request_chambers endDrawOwner_leavesChambers h
  | closePack => exact request_chambers closePackOwner_leavesChambers h
  | newCharge _ _ ps => exact request_chambers (newChargeOwner_leavesChambers ps) h
  | deleteCharge _ _ ps => exact request_chambers (deleteChargeOwner_leavesChambers ps) h
  | writeStaging p _ ps => exact request_chambers (writeOwner_leavesChambers p ps) h
  | writeSpecies p _ ps => exact request_chambers (writeOwner_leavesChambers p ps) h
  | commitSchedule _ _ ps => exact request_chambers (commitScheduleOwner_leavesChambers ps) h
  | clearSchedule _ _ ps => exact request_chambers (clearScheduleOwner_leavesChambers ps) h
  | packPlan _ _ ps => exact request_chambers (packPlanOwner_leavesChambers ps) h
  | nextLabel => exact request_chambers nextLabelOwner_leavesChambers h
  | ackLabel _ _ ps => exact request_chambers (ackLabelOwner_leavesChambers ps) h
  | reprint _ _ ps => exact request_chambers (reprintOwner_leavesChambers ps) h
  | setTime _ _ ps => exact request_chambers (setTimeOwner_leavesChambers ps) h
  | setCursor p _ ps => exact request_chambers (setCursorOwner_leavesChambers p ps) h
  | read p => exact request_chambers (readOwner_leavesChambers p) h
  | readNotices p => exact request_chambers (owner := readNoticesOwner p) (answered_some rfl) h
  | setNoticeMask p _ ps => exact request_chambers (setNoticeMaskOwner_leavesChambers p ps) h
  | status p => exact request_chambers (owner := fun s => took s (s.statusResults p)) (answered_some rfl) h
  | mark p _ ps => exact request_chambers (markOwner_leavesChambers p ps) h
  | unknownRequest => exact execUnknownRequest_chambers h
  | requestFrameCrcFail | portFrameBadLength | vbatRangeChange => cases h; split <;> rfl
  | probeFrame => exact execProbeFrame_chambers h
  | boardFrame => exact execBoardFrame_chambers h
  | tallyMove => exact execTallyMove_chambers h
  | drawEnd => exact execDrawEnd_chambers h
  | lineSilenceExpiry => exact execLineSilenceExpiry_chambers h
  | millTimeWrap => exact execMillTimeWrap_chambers h
  | mainPowerLoss => exact whilePowered_chambers (fun h => by cases h; rfl) h
  | portFrameWindowExpiry | responseSent | probeFrameWindowExpiry | boardFrameWindowExpiry | doorLimitPassed | portStartByte
  | probeStartByte | boardStartByte => exact whilePowered_ite_chambers h rfl

end

end Sys2Proof.Machine
end

-- ==== Proofs: setpoints stay in range ====
section
/-! R58, R81: every setpoint a chamber takes is that of a START, of a step of a VALID schedule, of the ramp toward it, of COOLING or
of a cleared chamber, and each of them lies in range. -/

namespace Sys2Proof.Machine

/-! ### One chamber's setpoints -/

/-- What R81 and R58 ask of the setpoints and the accumulator of one chamber. -/
def Chamber.InRange (x : Chamber) : Prop :=
  (200 ≤ x.drySetpoint ∧ x.drySetpoint ≤ 1200) ∧ x.wetSetpoint ≤ x.drySetpoint ∧ x.rampAcc < 3600

theorem setpointsInRange_iff {s : State} : s.SetpointsInRange ↔ ∀ c, (s.chamber c).InRange := Iff.rfl

theorem inRange_cleared (settings : Settings) : (Chamber.cleared settings).InRange := by
  simp [Chamber.InRange, Chamber.cleared]

theorem inRange_bindTo (k : Fin 8) (x : Chamber) : (x.bindTo k).InRange := by
  simp [Chamber.InRange, Chamber.bindTo]

theorem inRange_cooled {coolTemp : Nat} (h : 200 ≤ coolTemp ∧ coolTemp ≤ 600) (x : Chamber) : (x.cooled coolTemp).InRange := by
  simp only [Chamber.InRange, Chamber.cooled]
  omega

theorem wetBulb_le (dry depression : Nat) : wetBulb dry depression ≤ dry := Nat.sub_le dry depression

theorem clampSetpoint_range (t : Nat) : 200 ≤ clampSetpoint t ∧ clampSetpoint t ≤ 1200 := by
  unfold clampSetpoint
  omega

/-- A START begins at the dry-bulb temperature, clamped, or at the entry step's setpoint (R67). -/
theorem startSetpoint_range {st : Step} (h : 200 ≤ st.dryBulb ∧ st.dryBulb ≤ 1200) (d : DryBulb) :
    200 ≤ startSetpoint d st ∧ startSetpoint d st ≤ 1200 := by
  unfold startSetpoint
  split
  · exact clampSetpoint_range _
  all_goals exact h

/-- The ramp moves a setpoint no further than its target, and what it carries over is below a whole tenth (R80). -/
theorem rampMove_range {rate loaded target setpoint acc : Nat} (ht : 200 ≤ target ∧ target ≤ 1200)
    (hs : 200 ≤ setpoint ∧ setpoint ≤ 1200) :
    (200 ≤ (rampMove rate loaded target setpoint acc).1 ∧ (rampMove rate loaded target setpoint acc).1 ≤ 1200) ∧
      (rampMove rate loaded target setpoint acc).2 < 3600 := by
  unfold rampMove
  dsimp only
  generalize acc + rate * loaded = total
  split
  · exact ⟨ht, Nat.succ_pos _⟩
  · split
    · split <;> constructor <;> dsimp only <;> omega
    · split <;> constructor <;> dsimp only <;> omega

theorem inRange_ramped {x : Chamber} {st : Step} (h : 200 ≤ st.dryBulb ∧ st.dryBulb ≤ 1200) (hx : x.InRange) (loaded : Nat) :
    (x.ramped loaded st).InRange := by
  obtain ⟨hdry, hacc⟩ := rampMove_range (rate := st.ramp) (loaded := loaded) (acc := x.rampAcc) h hx.1
  exact ⟨hdry, wetBulb_le _ _, hacc⟩

/-! ### What a schedule gives -/

theorem Schedule.Valid.coolTemp_range {sch : Schedule} (h : sch.Valid) : 200 ≤ sch.coolTemp ∧ sch.coolTemp ≤ 600 := by
  obtain ⟨-, -, -, hcool, -⟩ := h
  exact hcool

theorem Schedule.Valid.dryBulb_range {sch : Schedule} (h : sch.Valid) {i : Nat} {st : Step} (hst : sch.steps[i]? = some st) :
    200 ≤ st.dryBulb ∧ st.dryBulb ≤ 1200 := by
  obtain ⟨-, -, -, -, -, hsteps, -⟩ := h
  exact (hsteps st (List.mem_of_getElem? hst)).2.1

theorem scheduleAt_valid {s : State} {c : ChamberNo} {sch : Schedule} (hv : s.RecordsValid)
    (h : s.scheduleAt c = some sch) : sch.Valid := by
  obtain ⟨k, ch, -, -, hsch⟩ := scheduleAt_eq_some.1 h
  exact hv.1 ch.schedule sch hsch

/-! ### One chamber of a state changed -/

section
variable {s t : State} {c : ChamberNo}

theorem inRange_of_chambers (h : t.chambers = s.chambers) (hs : s.SetpointsInRange) : t.SetpointsInRange :=
  setpointsInRange_iff.2 fun c => by
    rw [State.chamber, h]
    exact hs c

/-- A change of one chamber's record, and of what no setpoint is in. -/
theorem inRange_of_set {x : Chamber} (h : t.chambers = s.chambers.set c x) (hs : s.SetpointsInRange) (hx : x.InRange) :
    t.SetpointsInRange :=
  inRange_of_chambers (s := s.setChamber c x) h <| setpointsInRange_iff.2 fun d => by
    rw [chamber_setChamber]
    split
    · exact hx
    · exact hs d

/-! ### Steps, cooling and completion -/

theorem inRange_computeStats (hs : s.SetpointsInRange) : (s.computeStats c).SetpointsInRange :=
  inRange_of_set rfl hs (hs c)

theorem inRange_stepChange (hs : s.SetpointsInRange) (i : Nat) (st : Step) : (s.stepChange c i st).SetpointsInRange :=
  inRange_of_set rfl hs ⟨(hs c).1, wetBulb_le _ _, Nat.succ_pos _⟩

theorem inRange_intoCooling (hs : s.SetpointsInRange) {coolTemp : Nat} (h : 200 ≤ coolTemp ∧ coolTemp ≤ 600) :
    (s.intoCooling c coolTemp).SetpointsInRange :=
  inRange_of_set rfl hs (inRange_cooled h (s.chamber c))

theorem inRange_complete (hs : s.SetpointsInRange) : (s.complete c).SetpointsInRange := inRange_of_set rfl hs (hs c)

theorem inRange_coolingEvents (hs : s.SetpointsInRange) (cause : CoolingCause) (coolTime : Nat) :
    (s.coolingEvents c cause coolTime).SetpointsInRange := by
  have hevents : (if cause = .abort then s.offer c (.cooling cause) else (s.offer c (.cooling cause)).raise .step).chambers =
      s.chambers := by
    split <;> rfl
  unfold State.coolingEvents
  dsimp only
  split
  · exact inRange_complete (inRange_of_chambers hevents hs)
  · exact inRange_of_chambers hevents hs

/-! ### Requests -/

theorem inRange_beginRun (hs : s.SetpointsInRange) {st : Step} (h : 200 ≤ st.dryBulb ∧ st.dryBulb ≤ 1200) (origin : Port)
    (t : Nat) : (s.beginRun c origin t st).SetpointsInRange :=
  inRange_of_set rfl hs ⟨startSetpoint_range h _, wetBulb_le _ _, Nat.succ_pos _⟩

theorem loadOwner_inRange (hs : s.SetpointsInRange) (params : List Byte) :
    Answered State.SetpointsInRange (loadOwner params s) := by
  unfold loadOwner
  split
  · refine answered_withChamber hs fun c => ?_
    split
    · exact answered_some hs
    · split
      · exact answered_some hs
      · rename_i k ch _
        split
        · exact answered_some hs
        · exact answered_some (inRange_of_set rfl hs (inRange_bindTo k (s.chamber c)))
  · exact answered_some hs

theorem startOwner_inRange (hv : s.RecordsValid) (hs : s.SetpointsInRange) (origin : Port) (params : List Byte) :
    Answered State.SetpointsInRange (startOwner origin params s) := by
  unfold startOwner
  split
  · refine answered_withChamber hs fun c => ?_
    split
    · exact answered_some hs
    · split
      · exact answered_some hs
      · split
        · exact answered_none
        · rename_i sch hsch
          dsimp only
          split
          · exact answered_none
          · rename_i st hst
            exact answered_some (inRange_beginRun (inRange_computeStats hs)
              ((scheduleAt_valid hv hsch).dryBulb_range hst) _ _)
  · exact answered_some hs

theorem abortOwner_inRange (hv : s.RecordsValid) (hs : s.SetpointsInRange) (params : List Byte) :
    Answered State.SetpointsInRange (abortOwner params s) := by
  unfold abortOwner
  split
  · refine answered_withChamber hs fun c => ?_
    split
    · exact answered_some hs
    · split
      · exact answered_none
      · rename_i sch hsch
        exact answered_some (inRange_coolingEvents (inRange_intoCooling (s := s.modBound c _) hs
          (scheduleAt_valid hv hsch).coolTemp_range) _ _)
  · exact answered_some hs

theorem releaseOwner_inRange (hs : s.SetpointsInRange) (params : List Byte) :
    Answered State.SetpointsInRange (releaseOwner params s) := by
  unfold releaseOwner
  split
  · refine answered_withChamber hs fun c => ?_
    split
    · exact answered_some hs
    · split
      · exact answered_none
      · exact answered_some (inRange_of_set rfl hs (hs c))
  · exact answered_some hs

theorem queueOwner_inRange (hs : s.SetpointsInRange) (cmd : RunCommand) (params : List Byte) :
    Answered State.SetpointsInRange (queueOwner cmd params s) := by
  unfold queueOwner
  split
  · refine answered_withChamber hs fun c => ?_
    dsimp only
    split
    · exact answered_some hs
    · split
      · exact answered_some hs
      · exact answered_some (inRange_of_set rfl hs (hs c))
  · exact answered_some hs

theorem chamberSetOwner_inRange (hs : s.SetpointsInRange) (params : List Byte) :
    Answered State.SetpointsInRange (chamberSetOwner params s) := by
  unfold chamberSetOwner
  split
  · refine answered_withChamber hs fun c => ?_
    split
    · exact answered_some hs
    · exact answered_some (inRange_of_set rfl hs (hs c))
  · exact answered_some hs

/-! ### The evaluation instant -/

theorem inRange_statsStage (hs : s.SetpointsInRange) : (s.statsStage c).SetpointsInRange := inRange_of_set rfl hs (hs c)

theorem inRange_blindHold (hs : s.SetpointsInRange) : (s.blindHold c).SetpointsInRange := inRange_of_set rfl hs (hs c)

theorem inRange_countStage (hs : s.SetpointsInRange) : (s.countStage c).SetpointsInRange := by
  have hcount : ∀ n, (s.setChamber c { s.chamber c with invalidCount := n }).SetpointsInRange := fun _ =>
    inRange_of_set rfl hs (hs c)
  unfold State.countStage
  dsimp only
  generalize (if (s.chamber c).latest.values.isNone then satAdd Config.maxShort (s.chamber c).invalidCount 1 else 0) = count
  split
  · exact inRange_blindHold (hcount _)
  · exact hcount _

theorem inRange_manualAdvance (hs : s.SetpointsInRange) {v : RunView} (hv : v.sch.Valid) (cmd : RunCommand)
    (cause : CoolingCause) (next : Option (Nat × Step)) : (s.manualAdvance c v cmd cause next).SetpointsInRange := by
  have hmark : (s.modBound c (Charge.mark .manualStep)).SetpointsInRange := hs
  unfold State.manualAdvance
  dsimp only
  split
  · rename_i i st
    exact inRange_of_chambers (State.offer_chambers _ c _) (inRange_stepChange hmark i st)
  · exact inRange_coolingEvents (inRange_of_chambers (State.offer_chambers _ c _)
      (inRange_intoCooling hmark hv.coolTemp_range)) _ _

theorem inRange_carryOut (hs : s.SetpointsInRange) {v : RunView} (hv : v.sch.Valid) (cmd : RunCommand) :
    (s.carryOut c v cmd).SetpointsInRange := by
  cases cmd with
  | hold | resume =>
    unfold State.carryOut
    dsimp only
    split
    · exact inRange_of_set rfl hs (hs c)
    · exact inRange_of_chambers (State.offer_chambers s c _) hs
  | step | skipPhase => exact inRange_manualAdvance hs hv _ _ _

theorem inRange_commandStage (hs : s.SetpointsInRange) {v : RunView} (hv : v.sch.Valid) :
    (s.commandStage c v).SetpointsInRange := by
  have htaken : ∀ rest, (s.setChamber c { s.chamber c with queue := rest }).SetpointsInRange := fun _ =>
    inRange_of_set rfl hs (hs c)
  unfold State.commandStage
  dsimp only
  split
  · exact inRange_carryOut (htaken _) hv _
  · exact inRange_carryOut (htaken _) hv _
  · exact hs

/-- The ramp and the wet-bulb setpoint of a step in range (R80, R81). -/
theorem inRange_ramp (hs : s.SetpointsInRange) {st : Step} (h : 200 ≤ st.dryBulb ∧ st.dryBulb ≤ 1200) (loaded : Nat) :
    (s.modChamber c (Chamber.ramped loaded st)).SetpointsInRange :=
  inRange_of_set rfl hs (inRange_ramped h (hs c) loaded)

theorem inRange_runStage (hs : s.SetpointsInRange) {v : RunView} (hv : v.sch.Valid)
    (hstep : v.sch.steps[v.index]? = some v.step) (loaded : Nat) : (s.runStage c v loaded).SetpointsInRange := by
  have hdwell : (s.modChamber c fun x => { x with dwell := satAdd Config.maxCount x.dwell loaded }).SetpointsInRange :=
    inRange_of_set rfl hs (hs c)
  unfold State.runStage
  dsimp only
  split
  · split
    · rename_i st hst
      exact inRange_ramp (inRange_of_chambers (State.offer_chambers _ c _) (inRange_stepChange hdwell _ st))
        (hv.dryBulb_range hst) loaded
    · exact inRange_coolingEvents (inRange_intoCooling hdwell hv.coolTemp_range) _ _
  · exact inRange_ramp hdwell (hv.dryBulb_range hstep) loaded

theorem inRange_coolingStage (hs : s.SetpointsInRange) (v : RunView) (loaded : Nat) :
    (s.coolingStage c v loaded).SetpointsInRange := by
  have hdwell : (s.modChamber c fun x => { x with dwell := satAdd Config.maxCount x.dwell loaded }).SetpointsInRange :=
    inRange_of_set rfl hs (hs c)
  exact ite_keeps (inRange_complete hdwell) hdwell

theorem inRange_countdownStage (hs : s.SetpointsInRange) : (s.countdownStage c).SetpointsInRange :=
  ite_keeps hs (inRange_of_set rfl hs (hs c))

theorem inRange_evaluate (hv : s.RecordsValid) (hs : s.SetpointsInRange) {v : RunView} (h : s.runView c = some v)
    (loaded : Nat) : (s.evaluate c v loaded).SetpointsInRange := by
  obtain ⟨hsch, -, hstep⟩ := runView_some h
  have hvalid := scheduleAt_valid hv hsch
  have hserved := inRange_commandStage (c := c) (inRange_countStage (c := c) (inRange_statsStage (c := c) hs)) hvalid
  have hrun := fun p [Decidable p] => ite_keeps (p := p) (inRange_runStage (c := c) hserved hvalid hstep loaded) hserved
  exact inRange_countdownStage (ite_keeps (inRange_coolingStage (hrun _) v loaded) (hrun _))

theorem execEvaluationInstant_inRange (hv : s.RecordsValid) (hs : s.SetpointsInRange)
    (h : execEvaluationInstant c s = .next t) : t.SetpointsInRange := by
  refine whilePowered_keeps hs (fun h => ?_) h
  split at h
  · split at h
    · obtain ⟨v, hview, rfl⟩ := Option.map_eq_some_iff.1 (orBroken_eq_next.1 h)
      exact inRange_evaluate hv hs hview _
    · cases h; exact hs
  · cases h; exact hs

/-! ### Doors -/

theorem inRange_opened (hs : s.SetpointsInRange) : (s.opened c).SetpointsInRange := by
  unfold State.opened
  split
  · exact inRange_of_set rfl hs (hs c)
  · exact inRange_of_set rfl hs (hs c)
  all_goals exact hs

theorem inRange_endHold (hs : s.SetpointsInRange) (h : DoorHold) (ret : ChamberState) :
    (s.endHold c h ret).SetpointsInRange := by
  unfold State.endHold
  dsimp only
  split
  all_goals exact inRange_of_set rfl hs (hs c)

theorem inRange_shut (hs : s.SetpointsInRange) : (s.shut c).SetpointsInRange := by
  unfold State.shut
  split
  · exact inRange_endHold hs _ _
  · exact hs

theorem inRange_acceptDoor (hs : s.SetpointsInRange) (level : DoorLevel) : (s.acceptDoor c level).SetpointsInRange := by
  have hset : (s.setMonitor c { s.monitor c with door := level, debounce := none }).SetpointsInRange := hs
  cases level with
  | opened => exact inRange_opened hset
  | closed => exact inRange_shut hset

theorem inRange_sampleDoor (hs : s.SetpointsInRange) (level : DoorLevel) : (s.sampleDoor c level).SetpointsInRange := by
  have hset : (s.setMonitor c { s.monitor c with input := level }).SetpointsInRange := hs
  unfold State.sampleDoor
  dsimp only
  split
  · exact hs
  · split
    · exact hs
    · exact ite_keeps (inRange_acceptDoor hset level) hs

/-! ### Resets and the return of main power -/

theorem inRange_doorAtReturn (hs : s.SetpointsInRange) : (s.doorAtReturn c).SetpointsInRange := by
  unfold State.doorAtReturn
  split
  case h_7 | h_8 | h_9 | h_10 => exact hs
  all_goals exact inRange_of_set rfl hs (hs c)

theorem inRange_chamberReturn (hs : s.SetpointsInRange) (c : ChamberNo) (level : DoorLevel) :
    (s.chamberReturn c level).SetpointsInRange := by
  have hset : (s.setMonitor c { s.monitor c with input := level, door := level, debounce := none }).SetpointsInRange := hs
  have hdoor := inRange_doorAtReturn (c := c) hset
  unfold State.chamberReturn
  dsimp only
  generalize State.doorAtReturn c _ = u at hdoor
  have hcount : (u.modChamber c Chamber.atReturn).SetpointsInRange := by
    refine inRange_of_set rfl hdoor ?_
    unfold Chamber.atReturn
    split
    all_goals exact hdoor c
  have hmark := fun p [Decidable p] => ite_keeps (P := State.SetpointsInRange) (p := p)
    (t := ((u.modChamber c Chamber.atReturn).modBound c (Charge.mark .powerHold)).raise .held) hcount hcount
  exact ite_keeps (hmark _) (inRange_of_chambers (State.offer_chambers _ c _) (hmark _))

theorem inRange_powerReturn (hs : s.SetpointsInRange) (d0 d1 d2 d3 : DoorLevel) :
    (s.powerReturn d0 d1 d2 d3).SetpointsInRange := by
  unfold State.powerReturn
  refine inRange_chamberReturn (inRange_chamberReturn (inRange_chamberReturn (inRange_chamberReturn ?_ 0 d0) 1 d1) 2 d2) 3 d3
  exact hs

theorem inRange_of_cleared (d0 d1 d2 d3 : DoorLevel) (vbat : Bool) (baud : Baud) (queue : List Instr) :
    (State.cleared d0 d1 d2 d3 vbat baud queue).SetpointsInRange := by
  refine setpointsInRange_iff.2 fun c => ?_
  have hx : (State.cleared d0 d1 d2 d3 vbat baud queue).chamber c = Chamber.cleared Settings.default := by
    simp [State.chamber, State.cleared]
  rw [hx]
  exact inRange_cleared _

theorem inRange_mainReturns (hs : s.SetpointsInRange) (d0 d1 d2 d3 : DoorLevel) :
    (s.mainReturns d0 d1 d2 d3).SetpointsInRange :=
  ite_keeps (inRange_powerReturn hs d0 d1 d2 d3) (inRange_of_cleared d0 d1 d2 d3 _ _ _)

/-- Every chamber changed alike. -/
theorem inRange_of_map {f : Chamber → Chamber} (h : t.chambers = s.chambers.map f) (hf : ∀ c, (f (s.chamber c)).InRange) :
    t.SetpointsInRange := by
  refine setpointsInRange_iff.2 fun c => ?_
  have hx : t.chamber c = f (s.chamber c) := by simp [State.chamber, h]
  rw [hx]
  exact hf c

theorem inRange_portReset (hs : s.SetpointsInRange) : s.portReset.SetpointsInRange := inRange_of_map rfl hs

theorem inRange_clearReset (s : State) : s.clearReset.SetpointsInRange := inRange_of_map rfl fun _ => inRange_cleared _

/-! ### Every command -/

/-- Every command keeps setpoints in range: it leaves the chambers alone, or takes its setpoints from a VALID schedule. -/
theorem exec_inRange {i : Instr} (hv : s.RecordsValid) (hs : s.SetpointsInRange) (h : exec i s = .next t) :
    t.SetpointsInRange := by
  have hrequest : ∀ {r p tag} {owner : State → Owned}, Answered State.SetpointsInRange (owner s) →
      request r p tag owner s = .next t → t.SetpointsInRange := fun ho h => request_keeps (fun _ _ hu => hu) hs ho h
  cases hi : actsOnChambers i with
  | false => exact inRange_of_chambers (exec_chambers hi h) hs
  | true =>
    cases i with
    | load _ _ ps => exact hrequest (loadOwner_inRange hs ps) h
    | start p _ ps => exact hrequest (startOwner_inRange hv hs p ps) h
    | hold _ _ ps => exact hrequest (queueOwner_inRange hs .hold ps) h
    | resume _ _ ps => exact hrequest (queueOwner_inRange hs .resume ps) h
    | step _ _ ps => exact hrequest (queueOwner_inRange hs .step ps) h
    | skipPhase _ _ ps => exact hrequest (queueOwner_inRange hs .skipPhase ps) h
    | abort _ _ ps => exact hrequest (abortOwner_inRange hv hs ps) h
    | release _ _ ps => exact hrequest (releaseOwner_inRange hs ps) h
    | chamberSet _ _ ps => exact hrequest (chamberSetOwner_inRange hs ps) h
    | evaluationInstant => exact execEvaluationInstant_inRange hv hs h
    | doorInputChange c level => exact whilePowered_keeps hs (next_keeps (inRange_sampleDoor hs level)) h
    | doorDebounceExpiry => exact whilePowered_keeps hs (next_keeps (ite_keeps (inRange_acceptDoor hs _) hs)) h
    | powerReturn d0 d1 d2 d3 => exact next_keeps (ite_keeps hs (inRange_mainReturns hs d0 d1 d2 d3)) h
    | clearedStart d0 d1 d2 d3 => exact next_keeps (ite_keeps hs (inRange_mainReturns hs d0 d1 d2 d3)) h
    | portReset => exact whilePowered_keeps hs (next_keeps (inRange_portReset hs)) h
    | clearReset => exact whilePowered_keeps hs (next_keeps (inRange_clearReset s)) h
    | _ => cases hi

/-! ### Steps -/

theorem inRange_tick (hs : s.SetpointsInRange) : s.tick.SetpointsInRange := by
  unfold State.tick
  dsimp only
  split
  · exact inRange_of_map (s := s) rfl hs
  · exact hs

theorem inRange_idle (hs : s.SetpointsInRange) : s.idle.SetpointsInRange := by
  unfold State.idle
  split
  · exact inRange_tick hs
  · exact hs

end

/-- Settles O54: the records by the kinds of change a step can make, the setpoints by the command at the front of the queue. -/
theorem setpointsKept : Obligations.SetpointsKept := by
  intro s t h
  refine ⟨fun hv => step_keeps (fun _ _ h => h) (fun _ _ _ h => h.recordsValid) (fun _ _ _ _ _ _ h hs => ?_) h hv,
    fun ⟨hv, hs⟩ => ?_⟩
  · rw [State.RecordsValid, h.schedules, h.species]
    exact hs
  · obtain ⟨i, rest, -, hexec⟩ | ⟨-, rfl⟩ := step_next h
    · exact exec_inRange (s := { s with pending := rest }) hv hs hexec
    · exact inRange_idle hs

end Sys2Proof.Machine
end

-- ==== Proofs: the first failing check ====
section
/-! R24, R30: both validations go through a list of records and, for each, through its checks in the order of their causes. What
they report is the first record, and of it the first check, that fails. -/

namespace Sys2Proof.Machine

/-! ### The checks of one record -/

/-- A list of checks states the conditions `passes`, cause by cause: its causes ascend, and a check with a cause passes exactly when
the condition of that cause holds. A condition whose cause is not in the list holds. -/
structure States (checks : List (Bool × Nat)) (passes : Nat → Prop) : Prop where
  ascending : checks.Pairwise fun x y => x.2 < y.2
  sound : ∀ x ∈ checks, x.1 = true ↔ passes x.2
  others : ∀ c, (∀ x ∈ checks, x.2 ≠ c) → passes c

theorem firstFailure_eq_some {checks : List (Bool × Nat)} {cause : Nat}
    (hasc : checks.Pairwise fun x y => x.2 < y.2) :
    firstFailure checks = some cause ↔ (false, cause) ∈ checks ∧ ∀ x ∈ checks, x.2 < cause → x.1 = true := by
  induction checks with
  | nil => simp [firstFailure]
  | cons x rest ih =>
    obtain ⟨hlt, hrest⟩ := List.pairwise_cons.1 hasc
    obtain ⟨passes, first⟩ := x
    cases passes with
    | true => simp [firstFailure, ih hrest]
    | false =>
      simp only [firstFailure, Bool.false_eq_true, if_false, Option.some.injEq, List.mem_cons, Prod.mk.injEq, true_and,
        forall_eq_or_imp, imp_false, not_lt]
      constructor
      · rintro rfl
        exact ⟨.inl rfl, le_rfl, fun x hx h => absurd h (hlt x hx).le.not_gt⟩
      · rintro ⟨h | h, hle, -⟩
        · exact h.symm
        · exact absurd (hlt _ h) hle.not_gt

section
variable {checks : List (Bool × Nat)} {passes : Nat → Prop}

theorem States.failure_eq_none (h : States checks passes) : firstFailure checks = none ↔ ∀ c, passes c := by
  rw [firstFailure_eq_none]
  refine ⟨fun hall c => ?_, fun hall x hx => (h.sound x hx).2 (hall x.2)⟩
  by_cases hc : ∃ x ∈ checks, x.2 = c
  · obtain ⟨x, hx, rfl⟩ := hc
    exact (h.sound x hx).1 (hall x hx)
  · exact h.others c fun x hx he => hc ⟨x, hx, he⟩

theorem States.failure_eq_some (h : States checks passes) {cause : Nat} :
    firstFailure checks = some cause ↔ ¬passes cause ∧ ∀ c < cause, passes c := by
  rw [firstFailure_eq_some h.ascending]
  constructor
  · rintro ⟨hmem, hall⟩
    refine ⟨fun hp => by simpa using (h.sound _ hmem).2 hp, fun c hc => ?_⟩
    by_cases hx : ∃ x ∈ checks, x.2 = c
    · obtain ⟨x, hx, rfl⟩ := hx
      exact (h.sound x hx).1 (hall x hx hc)
    · exact h.others c fun x hx' he => hx ⟨x, hx', he⟩
  · rintro ⟨hp, hall⟩
    refine ⟨?_, fun x hx hlt => (h.sound x hx).2 (hall x.2 hlt)⟩
    by_contra hmem
    refine hp (h.others cause fun x hx he => ?_)
    subst he
    refine hp ((h.sound x hx).1 (Bool.eq_true_of_not_eq_false fun hf => hmem ?_))
    rw [← hf]
    exact hx

end

/-! ### The records in their order -/

/-- The first record of a list that fails one of its checks, numbered from `index`, with the cause; the checks of a record look at
the records before it, the nearest first. -/
def firstReport {α : Type} (checks : List α → α → List (Bool × Nat)) (index : Nat) (earlier : List α) :
    List α → Option (Nat × Nat)
  | [] => none
  | x :: rest =>
    match firstFailure (checks earlier x) with
    | some cause => some (index, cause)
    | none => firstReport checks (index + 1) (x :: earlier) rest

theorem stepsFailure_eq_firstReport (index : Nat) (earlier steps : List StagingStep) :
    stepsFailure index earlier steps = firstReport (fun earlier st => st.checks earlier) index earlier steps := by
  induction steps generalizing index earlier with
  | nil => rfl
  | cons st rest ih => cases h : firstFailure (st.checks earlier) <;> simp [stepsFailure, firstReport, h, ih]

theorem curveFailure_eq_firstReport (index : Nat) (earlier points : List Breakpoint) :
    curveFailure index earlier.head? points = firstReport (fun earlier b => b.checks earlier.head?) index earlier points := by
  induction points generalizing index earlier with
  | nil => rfl
  | cons b rest ih => cases h : firstFailure (b.checks earlier.head?) <;> simp [curveFailure, firstReport, h, ← ih]

section
variable {α : Type} {checks : List α → α → List (Bool × Nat)}

/-- The first failing check of the record at a place of a list, `earlier` being the records before the list. -/
def failureAt (checks : List α → α → List (Bool × Nat)) (earlier xs : List α) (k : Nat) : Option Nat :=
  xs[k]?.bind fun x => firstFailure (checks ((xs.take k).reverse ++ earlier) x)

theorem failureAt_zero (earlier xs : List α) (x : α) :
    failureAt checks earlier (x :: xs) 0 = firstFailure (checks earlier x) := rfl

theorem failureAt_succ (earlier xs : List α) (x : α) (k : Nat) :
    failureAt checks earlier (x :: xs) (k + 1) = failureAt checks (x :: earlier) xs k := by
  simp [failureAt]

theorem firstReport_eq_some {index j cause : Nat} {earlier xs : List α} :
    firstReport checks index earlier xs = some (j, cause) ↔
      ∃ k, j = index + k ∧ failureAt checks earlier xs k = some cause ∧ ∀ m < k, failureAt checks earlier xs m = none := by
  induction xs generalizing index earlier with
  | nil => simp [firstReport, failureAt]
  | cons x rest ih =>
    have hzero := failureAt_zero (checks := checks) earlier rest x
    cases hx : firstFailure (checks earlier x) with
    | some c =>
      rw [hx] at hzero
      simp only [firstReport, hx, Option.some.injEq, Prod.mk.injEq]
      constructor
      · rintro ⟨rfl, rfl⟩
        exact ⟨0, rfl, hzero, by simp⟩
      · rintro ⟨k, rfl, hk, hm⟩
        cases k with
        | zero => exact ⟨rfl, Option.some.inj (hzero.symm.trans hk)⟩
        | succ k => exact absurd (hzero.symm.trans (hm 0 k.succ_pos)) (by simp)
    | none =>
      rw [hx] at hzero
      simp only [firstReport, hx, ih, ← failureAt_succ]
      constructor
      · rintro ⟨k, rfl, hk, hm⟩
        refine ⟨k + 1, by omega, hk, fun m hlt => ?_⟩
        cases m with
        | zero => exact hzero
        | succ m => exact hm m (by omega)
      · rintro ⟨k, rfl, hk, hm⟩
        cases k with
        | zero => exact absurd (hzero.symm.trans hk) (by simp)
        | succ k => exact ⟨k, by omega, hk, fun m hlt => hm (m + 1) (by omega)⟩

theorem firstReport_eq_none {index : Nat} {earlier xs : List α} :
    firstReport checks index earlier xs = none ↔ ∀ k, failureAt checks earlier xs k = none := by
  constructor
  · intro h k
    induction k using Nat.strong_induction_on with
    | _ k ih =>
      by_contra hk
      obtain ⟨cause, hk⟩ := Option.ne_none_iff_exists'.1 hk
      simp [firstReport_eq_some.2 ⟨k, rfl, hk, ih⟩] at h
  · intro h
    by_contra hne
    obtain ⟨⟨j, cause⟩, hj⟩ := Option.ne_none_iff_exists'.1 hne
    obtain ⟨k, -, hk, -⟩ := firstReport_eq_some.1 hj
    simp [h k] at hk

end

/-! ### The records of a vector before a place, the nearest first -/

section
variable {α : Type} {n : Nat} {v : Vector α n} {t : Fin n}

/-- The records of a vector before a place, the nearest first. -/
def earlierOf (v : Vector α n) (t : Fin n) : List α := (v.toList.take t).reverse

theorem earlierOf_eq_nil : earlierOf v t = [] ↔ t.val = 0 := by
  have := t.isLt
  rw [earlierOf, List.reverse_eq_nil_iff, List.take_eq_nil_iff, ← List.length_eq_zero_iff, Vector.length_toList]
  omega

theorem forall_mem_earlierOf {p : α → Prop} : (∀ x ∈ earlierOf v t, p x) ↔ ∀ e : Fin n, e < t → p v[e] := by
  simp only [earlierOf, List.mem_reverse, List.mem_take_iff_getElem, forall_exists_index, Vector.length_toList,
    Vector.getElem_toList]
  constructor
  · exact fun h e he => h _ e (by have := e.isLt; have := Fin.lt_def.1 he; omega) rfl
  · rintro h x i hi rfl
    exact h ⟨i, by omega⟩ (Fin.lt_def.2 (by dsimp only; omega))

theorem forall_mem_head?_earlierOf {p : α → Prop} :
    (∀ x ∈ (earlierOf v t).head?, p x) ↔ ∀ e : Fin n, e.val + 1 = t.val → p v[e] := by
  obtain ⟨t, ht⟩ := t
  cases t with
  | zero => simp [earlierOf]
  | succ i =>
    have hi : i < n := by omega
    have hhead : (earlierOf v ⟨i + 1, ht⟩).head? = some v[i] := by
      rw [earlierOf, List.head?_reverse, List.getLast?_take]
      simp [hi]
    simp only [hhead, Option.mem_some_iff, forall_eq', Nat.add_right_cancel_iff]
    constructor
    · rintro h ⟨e, he⟩ rfl
      exact h
    · exact fun h => h ⟨i, hi⟩ rfl

/-- The checks of a record that a list takes from a vector. -/
theorem failureAt_take {checks : List α → α → List (Bool × Nat)} {count : Nat} (h : t.val < count) :
    failureAt checks [] (v.toList.take count) t = firstFailure (checks (earlierOf v t) v[t]) := by
  simp [failureAt, earlierOf, List.take_take, h, Nat.min_eq_left h.le]

theorem failureAt_take_of_not_lt {checks : List α → α → List (Bool × Nat)} {count k : Nat} (h : ¬(k < n ∧ k < count)) :
    failureAt checks [] (v.toList.take count) k = none := by
  rw [failureAt, List.getElem?_eq_none, Option.bind_none]
  rw [List.length_take, Vector.length_toList]
  omega

variable {checks : List α → α → List (Bool × Nat)} {passes : Fin n → Nat → Prop}

/-- The report on the first `count` records of a vector names record `t` when `t` is the first that fails a check. -/
theorem firstReport_take_eq_some (hst : ∀ i, States (checks (earlierOf v i) v[i]) (passes i)) {index count cause : Nat} :
    firstReport checks index [] (v.toList.take count) = some (index + t.val, cause) ↔
      t.val < count ∧ ¬passes t cause ∧ (∀ c < cause, passes t c) ∧ ∀ e < t, ∀ c, passes e c := by
  rw [firstReport_eq_some]
  constructor
  · rintro ⟨k, hk, hcause, hbefore⟩
    obtain rfl : t.val = k := by omega
    have ht : t.val < count := by
      by_contra hge
      rw [failureAt_take_of_not_lt (by omega)] at hcause
      cases hcause
    rw [failureAt_take ht, (hst t).failure_eq_some] at hcause
    refine ⟨ht, hcause.1, hcause.2, fun e he => (hst e).failure_eq_none.1 ?_⟩
    rw [← failureAt_take (Nat.lt_trans he ht)]
    exact hbefore e he
  · rintro ⟨ht, hfails, hpasses, hbefore⟩
    refine ⟨t, rfl, ?_, fun m hm => ?_⟩
    · rw [failureAt_take ht]
      exact (hst t).failure_eq_some.2 ⟨hfails, hpasses⟩
    · have hmn : m < n := hm.trans t.isLt
      rw [failureAt_take (t := ⟨m, hmn⟩) (hm.trans ht)]
      exact (hst ⟨m, hmn⟩).failure_eq_none.2 (hbefore ⟨m, hmn⟩ hm)

theorem firstReport_take_eq_none (hst : ∀ i, States (checks (earlierOf v i) v[i]) (passes i)) {index count : Nat} :
    firstReport checks index [] (v.toList.take count) = none ↔ ∀ i : Fin n, i.val < count → ∀ c, passes i c := by
  rw [firstReport_eq_none]
  constructor
  · intro h i hi
    rw [← (hst i).failure_eq_none, ← failureAt_take hi]
    exact h i
  · intro h k
    by_cases hk : k < n ∧ k < count
    · obtain ⟨hkn, hcount⟩ := hk
      rw [failureAt_take (t := ⟨k, hkn⟩) hcount]
      exact (hst ⟨k, hkn⟩).failure_eq_none.2 (h ⟨k, hkn⟩ hcount)
    · exact failureAt_take_of_not_lt hk

end

/-! ### The staging record -/

theorem header_states (h : StagingHeader) : States h.checks h.passes where
  ascending := by simp [StagingHeader.checks]
  sound := by simp [StagingHeader.checks, StagingHeader.passes]
  others c hc := by
    simp only [StagingHeader.checks, List.forall_mem_cons] at hc
    unfold StagingHeader.passes
    split <;> simp_all

theorem belowEarlier_iff {earlier : List StagingStep} {st : StagingStep} : st.belowEarlier earlier = true ↔
    (st.phase.toNat = 0 → st.changeAt.toNat ≠ 0 → ∀ e ∈ earlier, e.phase.toNat = 0 → e.changeAt.toNat ≠ 0 →
      st.changeAt.toNat < e.changeAt.toNat) := by
  have hzero : ∀ {w} (x : BitVec w), x.toNat = 0 ↔ x = 0 := fun x => by rw [← BitVec.toNat_inj]; simp
  simp only [StagingStep.belowEarlier, Bool.or_eq_true, bne_iff_ne, beq_iff_eq, List.all_eq_true, decide_eq_true_eq, hzero,
    BitVec.lt_def, ne_eq]
  refine ⟨fun h hp hc e he hep hec => ?_, fun h => ?_⟩
  · obtain (h | h) | h := h
    · exact absurd hp h
    · exact absurd h hc
    · exact (h e he).resolve_left (by tauto)
  · by_cases hp : st.phase = 0
    · by_cases hc : st.changeAt = 0
      · exact .inl (.inr hc)
      · refine .inr fun e he => ?_
        have := h hp hc e he
        tauto
    · exact .inl (.inl hp)

theorem step_states (sg : Staging) (t : Fin 12) : States (sg.steps[t].checks (earlierOf sg.steps t)) (sg.stepPasses t) where
  ascending := by simp [StagingStep.checks]
  sound := by
    have hfirst : t = 0 ↔ earlierOf sg.steps t = [] := by rw [earlierOf_eq_nil, Fin.ext_iff, Fin.val_zero]
    have hbefore := forall_mem_head?_earlierOf (v := sg.steps) (t := t) (p := fun e => e.phase.toNat ≤ sg.steps[t].phase.toNat)
    have hbelow : sg.steps[t].belowEarlier (earlierOf sg.steps t) = true ↔ sg.stepPasses t 15 := by
      rw [belowEarlier_iff]
      simp only [Staging.stepPasses, forall_mem_earlierOf (p := fun e : StagingStep => e.phase.toNat = 0 →
        e.changeAt.toNat ≠ 0 → sg.steps[t].changeAt.toNat < e.changeAt.toNat)]
    simp only [StagingStep.checks, List.forall_mem_cons, List.not_mem_nil, false_implies, implies_true, and_true]
    refine ⟨?_, ?_, ?_, ?_, ?_, ?_, ?_, ?_, ?first, ?before, hbelow⟩
    case first =>
      rw [Staging.stepPasses, hfirst]
      cases earlierOf sg.steps t <;> simp [← BitVec.toNat_inj]
    case before =>
      rw [Staging.stepPasses, ← hbefore]
      cases earlierOf sg.steps t <;> simp [BitVec.le_def]
    all_goals simp [Staging.stepPasses]
  others c hc := by
    simp only [StagingStep.checks, List.forall_mem_cons] at hc
    unfold Staging.stepPasses
    split <;> simp_all

theorem stepsFailure_eq_some_iff {sg : Staging} {t : Fin 12} {cause : Nat} :
    stepsFailure 1 [] sg.used = some (t.val + 1, cause) ↔ t.val < sg.header.stepCount.toNat ∧ ¬sg.stepPasses t cause ∧
      (∀ c < cause, sg.stepPasses t c) ∧ ∀ e < t, ∀ c, sg.stepPasses e c := by
  rw [stepsFailure_eq_firstReport, Nat.add_comm]
  exact firstReport_take_eq_some (step_states sg)

theorem stepsFailure_eq_none_iff {sg : Staging} : stepsFailure 1 [] sg.used = none ↔
    ∀ t : Fin 12, t.val < sg.header.stepCount.toNat → ∀ c, sg.stepPasses t c := by
  rw [stepsFailure_eq_firstReport]
  exact firstReport_take_eq_none (step_states sg)

/-- A step is numbered from 1 in the staging record: index 0 is the header's. -/
theorem stepsFailure_index {index j cause : Nat} {earlier steps : List StagingStep}
    (h : stepsFailure index earlier steps = some (j, cause)) : index ≤ j := by
  rw [stepsFailure_eq_firstReport, firstReport_eq_some] at h
  obtain ⟨k, rfl, -⟩ := h
  exact Nat.le_add_right _ _

/-- The validation of R24 when its header passes. -/
theorem failure_of_header {sg : Staging} (h : ∀ c, sg.header.passes c) : sg.failure = stepsFailure 1 [] sg.used := by
  simp only [Staging.failure, (header_states sg.header).failure_eq_none.2 h]

/-- The validation of R24 when a header check fails. -/
theorem failure_of_not_header {sg : Staging} (h : ¬∀ c, sg.header.passes c) :
    ∃ cause, firstFailure sg.header.checks = some cause ∧ sg.failure = some (0, cause) := by
  obtain ⟨cause, hc⟩ := Option.ne_none_iff_exists'.1 (mt (header_states sg.header).failure_eq_none.1 h)
  exact ⟨cause, hc, by simp only [Staging.failure, hc]⟩

theorem failure_eq_header_iff {sg : Staging} {cause : Nat} :
    sg.failure = some (0, cause) ↔ ¬sg.header.passes cause ∧ ∀ c < cause, sg.header.passes c := by
  by_cases h : ∀ c, sg.header.passes c
  · rw [failure_of_header h]
    exact iff_of_false (fun hf => absurd (stepsFailure_index hf) (by decide)) fun hf => hf.1 (h cause)
  · obtain ⟨first, hfirst, hf⟩ := failure_of_not_header h
    rw [hf, ← (header_states sg.header).failure_eq_some, hfirst]
    simp

theorem failure_eq_step_iff {sg : Staging} {t : Fin 12} {cause : Nat} : sg.failure = some (t.val + 1, cause) ↔
    (∀ c, sg.header.passes c) ∧ t.val < sg.header.stepCount.toNat ∧ ¬sg.stepPasses t cause ∧
      (∀ c < cause, sg.stepPasses t c) ∧ ∀ e < t, ∀ c, sg.stepPasses e c := by
  by_cases h : ∀ c, sg.header.passes c
  · rw [failure_of_header h, stepsFailure_eq_some_iff, and_iff_right h]
  · obtain ⟨first, -, hf⟩ := failure_of_not_header h
    simp [hf, h]

theorem failure_eq_none_iff {sg : Staging} : sg.failure = none ↔
    (∀ c, sg.header.passes c) ∧ ∀ t : Fin 12, t.val < sg.header.stepCount.toNat → ∀ c, sg.stepPasses t c := by
  by_cases h : ∀ c, sg.header.passes c
  · rw [failure_of_header h, stepsFailure_eq_none_iff, and_iff_right h]
  · obtain ⟨first, -, hf⟩ := failure_of_not_header h
    simp [hf, h]

/-- A staging record without a failing check has as many used step slots as its step count says. -/
theorem used_length {sg : Staging} (h : sg.failure = none) : sg.used.length = sg.header.stepCount.toNat := by
  have hcount := (failure_eq_none_iff.1 h).1 0
  simp only [StagingHeader.passes] at hcount
  simp only [Staging.used, List.length_take, Vector.length_toList]
  omega

/-! ### The species record -/

theorem point_states (sp : Species) (i : Fin 6) :
    States (sp.points[i].checks (earlierOf sp.points i).head?) (sp.pointPasses i) where
  ascending := by simp [Breakpoint.checks]
  sound := by
    have hcode := forall_mem_head?_earlierOf (v := sp.points) (t := i) (p := fun a => a.code < sp.points[i].code)
    have hmc := forall_mem_head?_earlierOf (v := sp.points) (t := i) (p := fun a => sp.points[i].mc < a.mc)
    simp only [Breakpoint.checks, List.forall_mem_cons, List.not_mem_nil, false_implies, implies_true, and_true]
    refine ⟨by simp [Species.pointPasses], ?_, by simp [Species.pointPasses], ?_⟩
    · rw [Species.pointPasses, ← hcode]
      cases (earlierOf sp.points i).head? <;> simp
    · rw [Species.pointPasses, ← hmc]
      cases (earlierOf sp.points i).head? <;> simp
  others c hc := by
    simp only [Breakpoint.checks, List.forall_mem_cons] at hc
    unfold Species.pointPasses
    split <;> simp_all

theorem speciesFailure_eq_firstReport (sp : Species) :
    sp.failure = firstReport (fun earlier b => b.checks earlier.head?) 0 [] (sp.points.toList.take 6) := by
  rw [List.take_of_length_le (by simp)]
  exact curveFailure_eq_firstReport 0 [] sp.points.toList

theorem speciesFailure_eq_some_iff {sp : Species} {i : Fin 6} {cause : Nat} : sp.failure = some (i.val, cause) ↔
    ¬sp.pointPasses i cause ∧ (∀ c < cause, sp.pointPasses i c) ∧ ∀ e < i, ∀ c, sp.pointPasses e c := by
  rw [speciesFailure_eq_firstReport, ← Nat.zero_add i.val, firstReport_take_eq_some (point_states sp), and_iff_right i.isLt]

theorem speciesFailure_eq_none_iff {sp : Species} : sp.failure = none ↔ ∀ i c, sp.pointPasses i c := by
  rw [speciesFailure_eq_firstReport, firstReport_take_eq_none (point_states sp)]
  exact forall_congr' fun i => forall_prop_of_true i.isLt

/-- Settles O15: what the two validations report, by the conditions that their checks state. -/
theorem validationExact : Obligations.ValidationExact := by
  refine ⟨fun sg => ⟨fun cause => failure_eq_header_iff, fun t cause => failure_eq_step_iff, failure_eq_none_iff,
    fun h => ⟨committed_valid h, (List.length_map _).trans (used_length h)⟩⟩, fun sp =>
    ⟨fun i cause => speciesFailure_eq_some_iff, speciesFailure_eq_none_iff, fun h hcoeff => ?_⟩⟩
  obtain ⟨hrange, -, hpair⟩ := curveFailure_eq_none h
  exact ⟨hrange, hpair, hcoeff⟩

end Sys2Proof.Machine
end

-- ==== Proofs: schedules and species written ====
section
/-! WRITE on STAGING and on SPECIES, COMMIT-SCHEDULE and CLEAR-SCHEDULE (R23, R25, R26, R29, R156): each owner's answer case by case,
passed through the Yard port. -/

namespace Sys2Proof.Machine

/-! ### Records in use -/

theorem holdsRecords_iff {st : ChargeState} : st.holdsRecords = true ↔ st ∈ [.assigned, .loaded, .inKiln] := by
  cases st <;> simp [ChargeState.holdsRecords]

theorem heldBy_iff {s : State} {names : Charge → Bool} : s.heldBy names = true ↔
    ∃ j, ∃ ch ∈ s.charge j, ch.state ∈ [.assigned, .loaded, .inKiln] ∧ names ch = true := by
  simp only [State.heldBy, List.any_eq_true, mem_allChargeSlots, true_and]
  refine exists_congr fun j => ?_
  cases s.charge j with
  | none => simp
  | some ch => simp only [Bool.and_eq_true, holdsRecords_iff, Option.mem_some_iff, exists_eq_left']

theorem scheduleInUse_iff {s : State} {n : Fin 16} : s.scheduleInUse n = true ↔
    ∃ j, ∃ ch ∈ s.charge j, ch.state ∈ [.assigned, .loaded, .inKiln] ∧ ch.schedule = n := by
  simp only [State.scheduleInUse, heldBy_iff, beq_iff_eq]

theorem speciesInUse_iff {s : State} {i : Fin 8} : s.speciesInUse i = true ↔
    ∃ j, ∃ ch ∈ s.charge j, ch.state ∈ [.assigned, .loaded, .inKiln] ∧ ch.species = i := by
  simp only [State.speciesInUse, heldBy_iff, beq_iff_eq]

theorem scheduleInUse_eq_false {s : State} {n : Fin 16}
    (h : ∀ j, ∀ ch ∈ s.charge j, ch.state ∈ [.assigned, .loaded, .inKiln] → ch.schedule ≠ n) : s.scheduleInUse n = false := by
  rw [← Bool.not_eq_true, scheduleInUse_iff]
  rintro ⟨j, ch, hch, hst, hn⟩
  exact h j ch hch hst hn

theorem speciesInUse_eq_false {s : State} {i : Fin 8}
    (h : ∀ j, ∀ ch ∈ s.charge j, ch.state ∈ [.assigned, .loaded, .inKiln] → ch.species ≠ i) : s.speciesInUse i = false := by
  rw [← Bool.not_eq_true, speciesInUse_iff]
  rintro ⟨j, ch, hch, hst, hi⟩
  exact h j ch hch hst hi

/-! ### WRITE -/

/-- Both WRITE rows are one frame, which the cursor's table decides (R156; log entry 14). -/
theorem exec_write {p : Port} {tag : Byte} {ps : List Byte} {s u : State} {a : Answer} {i : Instr}
    (hi : i ∈ [Instr.writeStaging p tag ps, .writeSpecies p tag ps]) (ht : s.takesFrame p = true)
    (hp : Request.write.permitted p = true) (ho : writeOwner p ps s = some (u, a)) :
    exec i s = .next (u.respond p 0x11#8 tag a) := by
  simp only [List.mem_cons, List.not_mem_nil, or_false] at hi
  obtain rfl | rfl := hi
  · exact request_taken ht hp ho
  · exact request_taken ht hp ho

/-- A taken WRITE steps the cursor, from the last index to 0, and sets the read mark (R156). -/
theorem written_eq {cur : Cursor} {table : Table} {index count : Nat} (ht : cur.table = table) (hi : cur.index = index) :
    cur.written (count + 1) =
      ⟨table, if cur.advance = true then (if index < count then index + 1 else 0) else index, cur.advance, true⟩ := by
  simp only [Cursor.written, Nat.add_lt_add_iff_right, ht, hi]

/-- Settles O13: the owner at index 0 and at a step slot's index, passed through the port. -/
theorem stagingWrites : Obligations.StagingWrites := by
  intro tag ps rest s ht htable i hi x hx
  have hcur : x = { s.port .yard with cursor := (s.port .yard).cursor.written 13 } := by rw [hx, written_eq htable rfl]
  have howner : writeOwner .yard ps s = writeStagingOwner .yard ps s := by simp only [writeOwner, htable]
  refine ⟨fun n t1 t0 w1 w0 c1 c0 m1 m0 hindex hps => ?_, fun t ph ba c1 c0 d1 d0 e1 e0 m1 m0 r1 r0 hindex hps => ?_⟩
  · refine exec_write hi ht rfl (howner.trans ?_)
    simp only [writeStagingOwner, hindex, hps, parseHeader, hcur]
    rfl
  · refine exec_write hi ht rfl (howner.trans ?_)
    simp only [writeStagingOwner, hindex, hps, parseStep, hcur, Fin.ofNat_val_eq_self]
    rfl

/-- A number of two bytes travels as it is (R174). -/
theorem nat16_ofNat {n : Nat} (h : n < 65536) : nat16 (BitVec.ofNat 8 (n / 256)) (BitVec.ofNat 8 n) = n := by
  simp only [nat16, BitVec.toNat_ofNat]
  omega

/-- A species record is read from its bytes as it was written (R28, R174; log entry 12). -/
theorem parseSpecies_bytes {sp : Species} (rest : List Byte) (hp : ∀ b ∈ sp.points.toList, b.code < 65536 ∧ b.mc < 65536)
    (hc : sp.coeff < 256) :
    parseSpecies (sp.points.toList.flatMap (fun b => u16 b.code ++ u16 b.mc) ++ u8 sp.coeff ++ rest) = some sp := by
  obtain ⟨⟨⟨points⟩, hsize⟩, coeff⟩ := sp
  match points, hsize with
  | [a, b, c, d, e, f], _ =>
    have hp : ∀ x ∈ [a, b, c, d, e, f], x.code < 65536 ∧ x.mc < 65536 := hp
    simp only [List.forall_mem_cons] at hp
    obtain ⟨⟨ha, ha'⟩, ⟨hb, hb'⟩, ⟨hc, hc'⟩, ⟨hd, hd'⟩, ⟨he, he'⟩, ⟨hf, hf'⟩, -⟩ := hp
    simp [parseSpecies, breakpoint, u16, u8, nat16_ofNat, *]

/-- Settles O14: the record is read back from its bytes, and the owner's three answers to it are passed through the port. -/
theorem speciesWrites : Obligations.SpeciesWrites := by
  intro tag ps rest sp k s ht htable hindex hpoints hcoeff hps i hi
  have hparse : parseSpecies ps = some sp := hps ▸ parseSpecies_bytes rest hpoints hcoeff
  have howner : writeOwner .yard ps s = writeSpeciesOwner .yard ps s := by simp only [writeOwner, htable]
  have hrun : ∀ {u a}, writeSpeciesOwner .yard ps s = some (u, a) → exec i s = .next (u.respond .yard 0x11#8 tag a) :=
    fun ho => exec_write hi ht rfl (howner.trans ho)
  have hcur := written_eq (count := 7) htable hindex
  simp only [writeSpeciesOwner, hparse, hindex, Fin.ofNat_val_eq_self] at hrun
  refine ⟨fun point cause hf => hrun ?_, fun hf huse => hrun ?_, fun hf huse => hrun ?_⟩
  · simp only [hf]; rfl
  · simp only [hf, speciesInUse_iff.2 huse]; rfl
  · rw [← hcur]
    simp only [hf, speciesInUse_eq_false huse]
    rfl

/-! ### COMMIT-SCHEDULE and CLEAR-SCHEDULE -/

theorem phaseOfCode_eq : ∀ code, phaseOfCode code = [Phase.dry, .equalize, .condition][code]?
  | 0 | 1 | 2 | _ + 3 => rfl

theorem basisOfCode_eq : ∀ code, basisOfCode code = [Basis.wettestHalf, .mean, .driest][code]?
  | 0 | 1 | 2 | _ + 3 => rfl

/-- The steps a commit copies are the steps that read, field by field, as the used step slots do (R25). -/
theorem committed_steps_eq {sg : Staging} {steps : List Step} (hf : sg.failure = none)
    (hlen : steps.length = sg.header.stepCount.toNat)
    (hsteps : ∀ (t : Fin 12) (st : Step), steps[t.val]? = some st → sg.steps[t].committed = st) : sg.committed.steps = steps := by
  have hused := used_length hf
  refine List.ext_getElem (by rw [Staging.committed, List.length_map, hused, hlen]) fun t h1 h2 => ?_
  have ht : t < 12 := by
    have := hused.symm.trans (List.length_take ..)
    rw [Vector.length_toList] at this
    omega
  rw [← hsteps ⟨t, ht⟩ steps[t] (List.getElem?_eq_getElem h2)]
  simp [Staging.committed, Staging.used]

/-- Settles O16: each owner's tests decide its branch, and what a commit copies is read off slot by slot. -/
theorem scheduleRequests : Obligations.ScheduleRequests := by
  intro tag b rest s ht commit clear
  have hcommit : ∀ {u a}, commitScheduleOwner (b :: rest) s = some (u, a) →
      commit = .next (u.respond .yard 0x12#8 tag a) := fun ho => request_taken ht rfl ho
  have hclear : ∀ {u a}, clearScheduleOwner (b :: rest) s = some (u, a) →
      clear = .next (u.respond .yard 0x13#8 tag a) := fun ho => request_taken ht rfl ho
  simp only [commitScheduleOwner] at hcommit
  simp only [clearScheduleOwner] at hclear
  refine ⟨fun hb => ⟨hcommit ?_, hclear ?_⟩, fun index cause hb hf => hcommit ?_, fun n hn => ?_⟩
  · simp only [finOf_eq_none.2 hb]; rfl
  · simp only [finOf_eq_none.2 hb]; rfl
  · simp only [finOf_eq_some (i := (⟨b.toNat, hb⟩ : Fin 16)).2 rfl, hf]; rfl
  · simp only [finOf_eq_some.2 hn] at hcommit hclear
    refine ⟨fun huse => ⟨fun hf => hcommit ?_, hclear ?_⟩, fun huse => ?_⟩
    · simp only [hf, scheduleInUse_iff.2 huse]; rfl
    · simp only [scheduleInUse_iff.2 huse]; rfl
    · have hfree := scheduleInUse_eq_false huse
      have htaken : s.staging.failure = none → commit = .next (State.respond .yard 0x12#8 tag
          ⟨.ok, [b, s.staging.header.stepCount]⟩ { s with schedules := s.schedules.set n (some s.staging.committed) }) :=
        fun hf => hcommit <| by
          simp only [hf, hfree, u8_val_of_toNat hn]
          simp [took, u8]
      refine ⟨fun steps hf hlen hsteps => ?_, fun hf => ⟨_, htaken hf⟩, hclear ?_⟩
      · rw [htaken hf, ← committed_steps_eq (steps := steps) hf hlen fun t st hst => ?_]
        · rfl
        · obtain ⟨hphase, hbasis, hchange, hdry, hdepression, hdwell, hramp⟩ := hsteps t st _ hst rfl
          simp only [StagingStep.committed, phaseOfCode_eq, basisOfCode_eq, hphase, hbasis, Option.getD_some, ← hchange, ← hdry,
            ← hdepression, ← hdwell, ← hramp]
      · simp only [hfree, u8_val_of_toNat hn]; rfl

end Sys2Proof.Machine
end

-- ==== Proofs: the rounded statistics ====
section
/-! R49: the five statistics of the accepted values taken wettest first, and the order in which rounding leaves them. -/

namespace Sys2Proof.Machine

/-! ### Means rounded to the nearest tenth -/

/-- Half the divisor added and the remainder discarded gives at least `m` exactly when the mean is at least `m` less one half. -/
theorem le_rounded_iff {sum n m : Nat} (hn : 0 < n) : m ≤ (sum + n / 2) / n ↔ 2 * (m * n) ≤ 2 * sum + n := by
  rw [Nat.le_div_iff_mul_le hn]
  omega

/-- A rounded mean lies within one half of the mean. -/
theorem rounded_near {sum n : Nat} (hn : 0 < n) : 2 * sum ≤ (2 * ((sum + n / 2) / n) + 1) * n ∧
    2 * n * ((sum + n / 2) / n) ≤ 2 * sum + n := by
  have hle := (le_rounded_iff (sum := sum) hn).1 le_rfl
  have hgt := mt (le_rounded_iff (sum := sum) (m := (sum + n / 2) / n + 1) hn).2 (Nat.not_succ_le_self _)
  generalize (sum + n / 2) / n = m at hle hgt
  constructor <;> nlinarith

/-- A mean that is no less than another is no less after the rounding. -/
theorem rounded_le_rounded {a b n k : Nat} (hn : 0 < n) (hk : 0 < k) (h : k * a ≤ n * b) :
    (a + n / 2) / n ≤ (b + k / 2) / k := by
  have hm := (le_rounded_iff (sum := a) hn).1 le_rfl
  rw [le_rounded_iff hk]
  generalize (a + n / 2) / n = m at hm
  have : n * (2 * (m * k)) ≤ n * (2 * b + k) := by nlinarith
  exact Nat.le_of_mul_le_mul_left this hn

/-! ### The values taken wettest first -/

theorem insertWettest_perm (x : Nat) (l : List Nat) : (insertWettest x l).Perm (x :: l) := by
  induction l with
  | nil => exact .refl _
  | cons y rest ih =>
    unfold insertWettest
    split
    · exact .refl _
    · exact (ih.cons y).trans (.swap x y rest)

theorem insertWettest_sorted {x : Nat} {l : List Nat} (h : l.Pairwise (· ≥ ·)) : (insertWettest x l).Pairwise (· ≥ ·) := by
  induction l with
  | nil => exact List.pairwise_singleton ..
  | cons y rest ih =>
    obtain ⟨hy, hrest⟩ := List.pairwise_cons.1 h
    unfold insertWettest
    split
    · rename_i hyx
      exact List.pairwise_cons.2 ⟨List.forall_mem_cons.2 ⟨hyx, fun z hz => (hy z hz).trans hyx⟩, h⟩
    · rename_i hyx
      refine List.pairwise_cons.2 ⟨fun z hz => ?_, ih hrest⟩
      obtain rfl | hz := List.mem_cons.1 ((insertWettest_perm x rest).mem_iff.1 hz)
      · exact (Nat.lt_of_not_le hyx).le
      · exact hy z hz

theorem wettestFirst_perm (l : List Nat) : (wettestFirst l).Perm l := by
  induction l with
  | nil => exact .refl _
  | cons x rest ih => exact (insertWettest_perm x _).trans (ih.cons x)

theorem wettestFirst_sorted (l : List Nat) : (wettestFirst l).Pairwise (· ≥ ·) := by
  induction l with
  | nil => exact .nil
  | cons x rest ih => exact insertWettest_sorted ih

/-- There is one way of taking values wettest first. -/
theorem eq_wettestFirst {sorted values : List Nat} (hp : sorted.Perm values) (hs : sorted.Pairwise (fun a b => b ≤ a)) :
    sorted = wettestFirst values :=
  (hp.trans (wettestFirst_perm values).symm).eq_of_pairwise (fun _ _ _ _ h g => Nat.le_antisymm g h) hs (wettestFirst_sorted values)

/-- The first of values taken wettest first is the wettest and the last the driest. -/
theorem sorted_ends {l : List Nat} (hs : l.Pairwise (· ≥ ·)) {v : Nat} (hv : v ∈ l) : l.getLastD 0 ≤ v ∧ v ≤ l.headD 0 := by
  have hne := List.ne_nil_of_mem hv
  rw [List.getLastD_eq_getLast?, List.headD_eq_head?_getD, List.getLast?_eq_getLast_of_ne_nil hne,
    List.head?_eq_some_head hne]
  exact ⟨hs.rel_getLast hv, hs.rel_head hv⟩

/-- The mean of the wettest `k` values is no less than the mean of them all. -/
theorem mean_le_mean_take {l : List Nat} (hs : l.Pairwise (· ≥ ·)) {k : Nat} (hk : k ≤ l.length) :
    k * l.sum ≤ l.length * (l.take k).sum := by
  have hsum : l.sum = (l.take k).sum + (l.drop k).sum := by rw [← List.sum_append, List.take_append_drop]
  have hlen : l.length = k + (l.drop k).length := by rw [List.length_drop]; omega
  have htake : (l.take k).length = k := List.length_take_of_le hk
  cases hd : l.drop k with
  | nil =>
    rw [hd] at hsum hlen
    rw [hsum, hlen, List.sum_nil, List.length_nil]
    exact le_rfl
  | cons pivot rest =>
    rw [← List.take_append_drop k l, List.pairwise_append, hd] at hs
    obtain ⟨-, hdrop, hcross⟩ := hs
    have hupper : k * pivot ≤ (l.take k).sum := by
      have := List.card_nsmul_le_sum (l.take k) pivot fun x hx => hcross x hx pivot List.mem_cons_self
      rwa [htake] at this
    have hlower : (l.drop k).sum ≤ (l.drop k).length * pivot := by
      refine List.sum_le_card_nsmul (l.drop k) pivot fun x hx => ?_
      rw [hd] at hx
      obtain rfl | hx := List.mem_cons.1 hx
      · exact le_rfl
      · exact (List.pairwise_cons.1 hdrop).1 x hx
    rw [hsum, hlen]
    calc k * ((l.take k).sum + (l.drop k).sum)
        ≤ k * (l.take k).sum + k * ((l.drop k).length * pivot) := by nlinarith
      _ = k * (l.take k).sum + (l.drop k).length * (k * pivot) := by ring
      _ ≤ (k + (l.drop k).length) * (l.take k).sum := by nlinarith

/-! ### The statistics -/

/-- The wettest half holds one half of the values, rounded up, and the wettest-half mean is its rounded mean (R49). -/
theorem wettestHalf_eq {values : List Nat} (h : values ≠ []) :
    ((wettestFirst values).take ((values.length + 1) / 2)).length = (values.length + 1) / 2 ∧
    (statValues values).wettestHalf = (((wettestFirst values).take ((values.length + 1) / 2)).sum +
      (values.length + 1) / 2 / 2) / ((values.length + 1) / 2) := by
  have hn := List.length_pos_iff.2 h
  have hlen : ((wettestFirst values).take ((values.length + 1) / 2)).length = (values.length + 1) / 2 :=
    List.length_take_of_le (by rw [(wettestFirst_perm values).length_eq]; omega)
  refine ⟨hlen, ?_⟩
  rw [show (statValues values).wettestHalf = roundedMean ((wettestFirst values).take ((values.length + 1) / 2)) from rfl,
    roundedMean, hlen]

/-- R50: the statistics of values within 0.0..60.0 % are in order. -/
theorem statValues_inOrder {values : List Nat} (hv : ∀ v ∈ values, v ≤ 600) (n : Nat) :
    Stats.InOrder ⟨n, some (statValues values)⟩ := by
  rintro _ ⟨⟩
  by_cases hne : values = []
  · subst hne; decide
  obtain ⟨hhalf, hwh⟩ := wettestHalf_eq hne
  have hn : 0 < values.length := List.length_pos_iff.2 hne
  have hperm := wettestFirst_perm values
  have hsort := wettestFirst_sorted values
  have hk : 0 < (values.length + 1) / 2 := by omega
  have hends : ∀ v ∈ wettestFirst values, (statValues values).driest ≤ v ∧ v ≤ (statValues values).wettest := fun _ =>
    sorted_ends hsort
  have hmean : (statValues values).mean = (values.sum + values.length / 2) / values.length := rfl
  refine ⟨?_, ?_, ?_, ?_⟩
  · rw [hmean, le_rounded_iff hn]
    have := List.card_nsmul_le_sum values _ fun v hv => (hends v (hperm.mem_iff.2 hv)).1
    rw [smul_eq_mul, mul_comm] at this
    omega
  · rw [hmean, hwh]
    have := mean_le_mean_take hsort (k := (values.length + 1) / 2) (by rw [hperm.length_eq]; omega)
    rw [hperm.length_eq, hperm.sum_eq] at this
    exact rounded_le_rounded hn hk this
  · rw [hwh]
    have := List.sum_le_card_nsmul ((wettestFirst values).take ((values.length + 1) / 2)) _ fun v hv =>
      (hends v (List.mem_of_mem_take hv)).2
    rw [hhalf, smul_eq_mul] at this
    rw [← Nat.lt_succ_iff, Nat.div_lt_iff_lt_mul hk, Nat.succ_mul, mul_comm]
    omega
  · have hmem : (statValues values).wettest ∈ wettestFirst values := by
      cases hw : wettestFirst values with
      | nil => simp [hw, hne] at hperm
      | cons x rest => simp [statValues, hw]
    exact hv _ (hperm.mem_iff.1 hmem)

/-- Settles O21: the values taken wettest first are one list, and each mean is within one half of what it rounds. -/
theorem statisticsComputed : Obligations.StatisticsComputed := by
  rintro values sorted n k hne hp hs rfl rfl
  obtain rfl := eq_wettestFirst hp hs
  obtain ⟨hhalf, hwh⟩ := wettestHalf_eq hne
  have hn : 0 < values.length := List.length_pos_iff.2 hne
  refine ⟨?_, fun m hm => ?_, fun v hv => sorted_ends (wettestFirst_sorted values) ((wettestFirst_perm values).mem_iff.2 hv),
    ?_, rounded_near hn, ?_⟩
  · rw [← hwh]; rfl
  · rw [statsOf, if_neg (Nat.not_lt.2 hm)]
  · rintro v rfl
    simp [statValues, wettestFirst, insertWettest, roundedMean]
  · rw [hwh]
    exact rounded_near (by omega)

/-! ### One computation -/

/-- The accepted values of slots are those of the slots of the valid set, in their order. -/
theorem filterMap_of_valid {α : Type} {f g : α → Option Nat} {p : α → Bool} (hp : ∀ i, p i = (f i).isSome)
    (hg : ∀ i a, f i = some a → g i = some a) (l : List α) {values : List Nat}
    (h : values.map some = (l.filter p).map g) : l.filterMap f = values := by
  refine List.map_injective_iff.2 (Option.some_injective Nat) (Eq.trans ?_ h.symm)
  clear h
  induction l with
  | nil => rfl
  | cons i rest ih =>
    cases hi : f i with
    | none => simpa [hp, hi] using ih
    | some a => simpa [hp, hi, hg i a hi] using ih

theorem validMc_accepted {t : SlotTrust} {a : Nat} (h : t.validMc = some a) : t.accepted = some a := by
  cases t with
  | good => exact h
  | _ => cases h

theorem samples_toList {α : Type} (v : Vector α 16) : v.toList = (List.finRange 16).map fun i => v[i] :=
  List.ext_getElem (by simp) fun i _ _ => by simp

/-- A computation of statistics takes the staleness test to each slot, then the values of the valid set (R47, R48). -/
theorem computed_samples (st : Settings) (b : ProbeBank) (i : Fin 16) :
    (b.computed st).samples[i] = (b.samples[i]).aged st.interval := by
  simp [ProbeBank.computed]

theorem computed_stats (st : Settings) (b : ProbeBank) :
    (b.computed st).stats = statsOf st.minProbes (b.computed st).validValues := rfl

/-- Settles O20: the values handed to R49 are the accepted MCs of the slots that the staleness test leaves GOOD. -/
theorem statisticsRequested : Obligations.StatisticsRequested := by
  intro st b
  refine ⟨fun i => ?_, ?_, ?_⟩
  · rw [computed_samples]
    unfold SampleSlot.aged
    cases b.samples[i].trust <;> rfl
  · cases h : b.dryBulb.trust <;> simp [ProbeBank.computed, DryBulb.aged, h]
  · rintro valid values rfl hvalues
    have hlen := congrArg List.length hvalues
    rw [List.length_map, List.length_map] at hlen
    have hvalid : (b.computed st).validValues = values := by
      rw [ProbeBank.validValues, samples_toList, List.filterMap_map]
      refine filterMap_of_valid (fun i => ?_) (fun i a => validMc_accepted) _ hvalues
      dsimp only [Function.comp]
      cases (b.computed st).samples[i].trust <;> rfl
    rw [computed_stats, hvalid, statsOf, hlen]

end Sys2Proof.Machine
end

-- ==== Proofs: what leaves the probe records alone ====
section
/-! The commands outside chapters 3, 4, 5 and 10 leave every probe record as it is. -/

namespace Sys2Proof.Machine

section
variable {s t : State}

/-! ### Packs, draws and boards -/

theorem checkBlocked_probes (s : State) : s.checkBlocked.probes = s.probes := by
  obtain h | ⟨-, -, h⟩ := checkBlocked_cases s <;> rw [h]

theorem closePack_probes {cause : CloseCause} {k : Fin 16} {p : Pack} (h : s.closePack cause k p = some t) :
    t.probes = s.probes := by
  obtain ⟨v, -, rfl⟩ := closePack_some h
  rfl

theorem endDraw_probes {d : Draw} (h : s.endDraw d = some t) : t.probes = s.probes := by
  obtain ⟨u, hu, rfl⟩ := Option.map_eq_some_iff.1 h
  have hclosed : u.probes = s.probes := by
    unfold State.closeOpen at hu
    split at hu
    · exact closePack_probes hu
    · cases hu; rfl
  exact (checkBlocked_probes _).trans hclosed

theorem packForMove_probes {b : BoardRecord} {k : Fin 16} {p : Pack} (h : s.packForMove b = some (t, k, p)) :
    t.probes = s.probes := by
  unfold State.packForMove at h
  split at h
  · cases h; rfl
  · split at h <;> cases h
    rfl

theorem moveBoard_probes {b : BoardRecord} {rest : List BoardRecord} (h : s.moveBoard b rest = some t) :
    t.probes = s.probes := by
  unfold State.moveBoard at h
  split at h
  · cases h
  · rename_i u k p hu
    obtain ⟨w, hw, rfl⟩ := Option.map_eq_some_iff.1 h
    rw [checkBlocked_probes, ← packForMove_probes hu]
    split at hw
    · rw [closePack_probes hw]; rfl
    · cases hw; rfl

theorem expireSilence_probes {x : Silence} (h : s.expireSilence x = some t) : t.probes = s.probes := by
  unfold State.expireSilence at h
  dsimp only at h
  split at h
  · cases h; rfl
  · split at h
    · obtain ⟨w, hw, rfl⟩ := Option.map_eq_some_iff.1 h
      rw [checkBlocked_probes, closePack_probes hw]; rfl
    · cases h; rfl

theorem countAndDispose_probes (s : State) (d : Draw) (ch : Charge) (rem g : Nat) (b : Board) :
    (s.countAndDispose d ch rem g b).1.probes = s.probes := by
  unfold State.countAndDispose
  dsimp only
  split <;> split <;> rfl

theorem grade_probes {b : Board} (h : s.grade b = some t) : t.probes = s.probes := by
  unfold State.grade at h
  split at h
  · cases h; rfl
  · unfold State.gradeNew at h
    dsimp only at h
    have hseq : (if (sequenceGap s.lastSeq b.sequence).2 = true then s.raise .seq else s).probes = s.probes := by
      split <;> rfl
    generalize (if (sequenceGap s.lastSeq b.sequence).2 = true then s.raise .seq else s) = u at h hseq
    rw [← hseq]
    split at h
    · cases h; rfl
    · split at h
      · cases h; rfl
      · split at h
        · cases h
        · split at h <;> cases h
          exact (checkBlocked_probes _).trans (countAndDispose_probes u _ _ _ _ b)

/-! ### Owners of requests -/

/-- What an owner answers, if it answers, has the probe records of `s`. -/
abbrev LeavesProbes (s : State) (o : Owned) : Prop := Answered (fun t => t.probes = s.probes) o

theorem closePackOwner_leavesProbes : LeavesProbes s (closePackOwner s) := by
  unfold closePackOwner
  split
  · exact answered_some rfl
  · intro t a h
    obtain ⟨u, hu, he⟩ := Option.map_eq_some_iff.1 h
    obtain ⟨rfl, -⟩ := Prod.mk.inj he
    exact (checkBlocked_probes u).trans (closePack_probes hu)

theorem endDrawOwner_leavesProbes : LeavesProbes s (endDrawOwner s) := by
  unfold endDrawOwner
  split
  · split
    · exact answered_some rfl
    · split
      · exact answered_none
      · exact answered_some rfl
  · exact answered_some rfl

theorem nextLabelOwner_leavesProbes : LeavesProbes s (nextLabelOwner s) := by
  unfold nextLabelOwner
  split
  · exact answered_some rfl
  · split
    · exact answered_none
    · exact answered_some rfl

theorem reprintOwner_leavesProbes (params : List Byte) : LeavesProbes s (reprintOwner params s) := by
  unfold reprintOwner
  split
  · dsimp only
    split
    · exact answered_some rfl
    · split
      · exact answered_some rfl
      · split
        · exact answered_none
        · exact answered_some rfl
  · exact answered_some rfl

theorem markOwner_leavesProbes (origin : Port) (params : List Byte) : LeavesProbes s (markOwner origin params s) := by
  unfold markOwner
  split
  · refine answered_withChamber rfl fun c => ?_
    dsimp only
    split
    all_goals exact answered_some rfl
  · exact answered_some rfl

/-! The other owners read no link: each of their branches answers with a state that has the same probe records. -/

theorem drawOwner_leavesProbes (params : List Byte) : LeavesProbes s (drawOwner params s) := by
  unfold drawOwner
  repeat' split
  all_goals exact answered_some rfl

theorem newChargeOwner_leavesProbes (params : List Byte) : LeavesProbes s (newChargeOwner params s) := by
  unfold newChargeOwner createCharge
  dsimp only
  repeat' split
  all_goals exact answered_some rfl

theorem deleteChargeOwner_leavesProbes (params : List Byte) : LeavesProbes s (deleteChargeOwner params s) := by
  unfold deleteChargeOwner
  repeat' split
  all_goals exact answered_some rfl

theorem writeOwner_leavesProbes (p : Port) (params : List Byte) : LeavesProbes s (writeOwner p params s) := by
  unfold writeOwner writeStagingOwner writeSpeciesOwner
  dsimp only
  repeat' split
  all_goals exact answered_some rfl

theorem commitScheduleOwner_leavesProbes (params : List Byte) : LeavesProbes s (commitScheduleOwner params s) := by
  unfold commitScheduleOwner
  repeat' split
  all_goals exact answered_some rfl

theorem clearScheduleOwner_leavesProbes (params : List Byte) : LeavesProbes s (clearScheduleOwner params s) := by
  unfold clearScheduleOwner
  repeat' split
  all_goals exact answered_some rfl

theorem packPlanOwner_leavesProbes (params : List Byte) : LeavesProbes s (packPlanOwner params s) := by
  unfold packPlanOwner
  repeat' split
  all_goals exact answered_some rfl

theorem ackLabelOwner_leavesProbes (params : List Byte) : LeavesProbes s (ackLabelOwner params s) := by
  unfold ackLabelOwner
  dsimp only
  repeat' split
  all_goals exact answered_some rfl

theorem setTimeOwner_leavesProbes (params : List Byte) : LeavesProbes s (setTimeOwner params s) := by
  unfold setTimeOwner
  split
  all_goals exact answered_some rfl

theorem setCursorOwner_leavesProbes (p : Port) (params : List Byte) : LeavesProbes s (setCursorOwner p params s) := by
  unfold setCursorOwner
  repeat' split
  all_goals exact answered_some rfl

theorem readOwner_leavesProbes (p : Port) : LeavesProbes s (readOwner p s) := by
  unfold readOwner
  dsimp only
  split
  all_goals exact answered_some rfl

theorem setNoticeMaskOwner_leavesProbes (p : Port) (params : List Byte) : LeavesProbes s (setNoticeMaskOwner p params s) := by
  unfold setNoticeMaskOwner
  dsimp only
  repeat' split
  all_goals exact answered_some rfl

/-! ### Every command -/

/-- The commands that can change a probe record, beside those that act on chambers: a probe frame and the requests of chapter 3. -/
def actsOnProbes : Instr → Bool
  | .check .. | .probeEnable .. | .probeFrame .. => true
  | _ => false

theorem request_probes {r : Request} {p : Port} {tag : Byte} {owner : State → Owned} (ho : LeavesProbes s (owner s))
    (h : request r p tag owner s = .next t) : t.probes = s.probes :=
  request_keeps (P := fun t => t.probes = s.probes) (fun _ _ h => h) rfl ho h

theorem whilePowered_probes {o : Host.Outcome State Fault Refusal} (ho : o = .next t → t.probes = s.probes)
    (h : whilePowered s o = .next t) : t.probes = s.probes :=
  whilePowered_keeps (P := fun t => t.probes = s.probes) rfl ho h

/-- An event taken while main power is on that changes `s` where a test holds, and then to a state with the same probe records. -/
theorem whilePowered_ite_probes {u : State} {p : Prop} [Decidable p]
    (h : whilePowered s (.next (if p then u else s)) = .next t) (hu : u.probes = s.probes) : t.probes = s.probes :=
  whilePowered_probes (next_keeps (P := fun t => t.probes = s.probes)
    (ite_keeps (P := fun t => t.probes = s.probes) hu rfl)) h

theorem execUnknownRequest_probes {p : Port} {code tag : Byte} (h : execUnknownRequest p code tag s = .next t) :
    t.probes = s.probes := by
  unfold execUnknownRequest at h
  split at h
  · cases h
  · split at h <;> cases h <;> rfl

theorem execBoardFrame_probes {sequence mcHigh mcLow lengthHigh lengthLow check : Byte}
    (h : execBoardFrame sequence mcHigh mcLow lengthHigh lengthLow check s = .next t) : t.probes = s.probes := by
  unfold execBoardFrame at h
  split at h
  · split at h
    · rw [grade_probes (orBroken_eq_next.1 h)]
    · cases h; rfl
  · cases h; rfl

theorem execTallyMove_probes (h : execTallyMove s = .next t) : t.probes = s.probes := by
  refine whilePowered_probes (fun h => ?_) h
  split at h
  · split at h
    · exact moveBoard_probes (orBroken_eq_next.1 h)
    · cases h; rfl
  · cases h; rfl

theorem execDrawEnd_probes (h : execDrawEnd s = .next t) : t.probes = s.probes := by
  refine whilePowered_probes (fun h => ?_) h
  split at h
  · split at h
    · exact endDraw_probes (orBroken_eq_next.1 h)
    · cases h; rfl
  · cases h; rfl

theorem execLineSilenceExpiry_probes (h : execLineSilenceExpiry s = .next t) : t.probes = s.probes := by
  refine whilePowered_probes (fun h => ?_) h
  split at h
  · split at h
    · exact expireSilence_probes (orBroken_eq_next.1 h)
    · cases h; rfl
  · cases h; rfl

theorem execMillTimeWrap_probes (h : execMillTimeWrap s = .next t) : t.probes = s.probes := by
  cases h
  split
  · dsimp only
    split <;> rfl
  · rfl

/-- The commands of the other chapters leave every probe record as it is. -/
theorem exec_probes {i : Instr} (hc : actsOnChambers i = false) (hp : actsOnProbes i = false) (h : exec i s = .next t) :
    t.probes = s.probes := by
  cases i with
  | load | start | hold | resume | step | skipPhase | abort | release | chamberSet | evaluationInstant | doorInputChange
  | doorDebounceExpiry | powerReturn | clearedStart | portReset | clearReset => cases hc
  | check | probeEnable | probeFrame => cases hp
  | draw _ _ ps => exact request_probes (drawOwner_leavesProbes ps) h
  | endDraw => exact request_probes endDrawOwner_leavesProbes h
  | closePack => exact request_probes closePackOwner_leavesProbes h
  | newCharge _ _ ps => exact request_probes (newChargeOwner_leavesProbes ps) h
  | deleteCharge _ _ ps => exact request_probes (deleteChargeOwner_leavesProbes ps) h
  | writeStaging p _ ps => exact request_probes (writeOwner_leavesProbes p ps) h
  | writeSpecies p _ ps => exact request_probes (writeOwner_leavesProbes p ps) h
  | commitSchedule _ _ ps => exact request_probes (commitScheduleOwner_leavesProbes ps) h
  | clearSchedule _ _ ps => exact request_probes (clearScheduleOwner_leavesProbes ps) h
  | packPlan _ _ ps => exact request_probes (packPlanOwner_leavesProbes ps) h
  | nextLabel => exact request_probes nextLabelOwner_leavesProbes h
  | ackLabel _ _ ps => exact request_probes (ackLabelOwner_leavesProbes ps) h
  | reprint _ _ ps => exact request_probes (reprintOwner_leavesProbes ps) h
  | setTime _ _ ps => exact request_probes (setTimeOwner_leavesProbes ps) h
  | setCursor p _ ps => exact request_probes (setCursorOwner_leavesProbes p ps) h
  | read p => exact request_probes (readOwner_leavesProbes p) h
  | readNotices p => exact request_probes (owner := readNoticesOwner p) (answered_some rfl) h
  | setNoticeMask p _ ps => exact request_probes (setNoticeMaskOwner_leavesProbes p ps) h
  | status p => exact request_probes (owner := fun s => took s (s.statusResults p)) (answered_some rfl) h
  | mark p _ ps => exact request_probes (markOwner_leavesProbes p ps) h
  | unknownRequest => exact execUnknownRequest_probes h
  | requestFrameCrcFail | portFrameBadLength | vbatRangeChange => cases h; split <;> rfl
  | boardFrame => exact execBoardFrame_probes h
  | tallyMove => exact execTallyMove_probes h
  | drawEnd => exact execDrawEnd_probes h
  | lineSilenceExpiry => exact execLineSilenceExpiry_probes h
  | millTimeWrap => exact execMillTimeWrap_probes h
  | mainPowerLoss => exact whilePowered_probes (fun h => by cases h; rfl) h
  | portFrameWindowExpiry | responseSent | probeFrameWindowExpiry | boardFrameWindowExpiry | doorLimitPassed | portStartByte
  | probeStartByte | boardStartByte => exact whilePowered_ite_probes h rfl

end

end Sys2Proof.Machine
end

-- ==== Proofs: offsets, accepted MCs and statistics stay in range ====
section
/-! R50, R54: every accepted MC is a candidate or one that CHECK sets, each clamped to 0.0..60.0 %, and the statistics of a chamber
are computed from accepted MCs and copied into its record in one operation. -/

namespace Sys2Proof.Machine

/-! ### One probe bank -/

/-- What R50 and R54 ask of a sample slot. -/
def SampleSlot.InRange (x : SampleSlot) : Prop := (-50 ≤ x.offset ∧ x.offset ≤ 50) ∧ ∀ a ∈ x.trust.accepted, a ≤ 600

/-- What R50 and R54 ask of the probe records of a chamber. -/
def ProbeBank.InRange (b : ProbeBank) : Prop := (∀ i : Fin 16, (b.samples[i]).InRange) ∧ b.stats.InOrder

theorem moistureInRange_iff {s : State} :
    s.MoistureInRange ↔ ∀ c, (s.bank c).InRange ∧ (s.chamber c).latest = (s.bank c).stats :=
  forall_congr' fun _ => and_assoc.symm

/-! ### Clamped values -/

theorem clampInt_range {lo hi : Int} (h : lo ≤ hi) (x : Int) : lo ≤ clampInt lo hi x ∧ clampInt lo hi x ≤ hi :=
  ⟨le_max_left _ _, max_le h (min_le_left _ _)⟩

theorem clampMc_le (x : Int) : (clampInt 0 600 x).toNat ≤ 600 := by
  have := clampInt_range (lo := 0) (hi := 600) (by decide) x
  omega

/-- R44, R45: an accepted MC is the one a slot had or a candidate. -/
theorem accept_accepted {jump candidate a : Nat} {t : SlotTrust} (h : (t.accept jump candidate).accepted = some a) :
    t.accepted = some a ∨ a = candidate := by
  cases t with
  | off => exact .inl h
  | new | fault => exact .inr (Option.some.inj h.symm)
  | good | stale | suspect =>
    dsimp only [SlotTrust.accept] at h
    split at h
    · exact .inr (Option.some.inj h.symm)
    · exact .inl h

/-! ### Slots -/

section
variable {x : SampleSlot}

theorem inRange_converted (h : x.InRange) (sp : Species) (temperature : Option Nat) (jump code : Nat) :
    (x.converted sp temperature jump code).InRange := by
  refine ⟨h.1, fun a ha => ?_⟩
  obtain ha | rfl := accept_accepted ha
  · exact h.2 a ha
  · exact clampMc_le _

theorem inRange_faulted (h : x.InRange) (cause : FaultCause) : (x.faulted cause).InRange := h

theorem inRange_aged (h : x.InRange) (interval : Nat) : (x.aged interval).InRange := by
  unfold SampleSlot.aged
  split
  · rename_i a ht
    split
    · exact ⟨h.1, fun b hb => h.2 b (by rw [ht]; exact hb)⟩
    · exact h
  all_goals exact h

theorem inRange_loaded (x : SampleSlot) : x.loaded.InRange := by
  refine ⟨⟨Int.neg_nonpos_of_nonneg (by decide), by simp [SampleSlot.loaded]⟩, fun a ha => ?_⟩
  have : x.loaded.trust.accepted = none := by
    unfold SampleSlot.loaded
    dsimp only
    split <;> rfl
  exact absurd (this.symm.trans ha) nofun

theorem inRange_clearedSlot (enabled : Bool) : (SampleSlot.cleared enabled).InRange := by
  cases enabled <;> exact ⟨by decide, nofun⟩

theorem inRange_enable (h : x.InRange) (on : Bool) : (x.enable on).InRange := by
  unfold SampleSlot.enable
  split
  · exact h
  · cases on <;> exact ⟨h.1, nofun⟩

end

/-! ### Banks -/

section
variable {b : ProbeBank}

theorem setSample_samples (b : ProbeBank) (i j : Fin 16) (x : SampleSlot) :
    (b.setSample i x).samples[j] = if i = j then x else b.samples[j] := by
  simp [ProbeBank.setSample, Vector.getElem_set, Fin.ext_iff]

theorem inRange_setSample (h : b.InRange) {i : Fin 16} {x : SampleSlot} (hx : x.InRange) : (b.setSample i x).InRange :=
  ⟨fun j => by
    rw [setSample_samples]
    split
    · exact hx
    · exact h.1 j, h.2⟩

/-- R48, R50: statistics of accepted MCs within 0.0..60.0 % are in order. -/
theorem statsOf_inOrder {values : List Nat} (hv : ∀ v ∈ values, v ≤ 600) (minProbes : Nat) : (statsOf minProbes values).InOrder := by
  unfold statsOf
  split
  · exact nofun
  · exact statValues_inOrder hv _

theorem validValues_le (h : ∀ i : Fin 16, (b.samples[i]).InRange) : ∀ v ∈ b.validValues, v ≤ 600 := by
  intro v hv
  obtain ⟨x, hx, hm⟩ := List.mem_filterMap.1 hv
  obtain ⟨i, hi, rfl⟩ := List.mem_iff_getElem.1 hx
  exact (h ⟨i, by simpa using hi⟩).2 v (validMc_accepted hm)

theorem inRange_computed (h : b.InRange) (st : Settings) : (b.computed st).InRange := by
  have hslots : ∀ i : Fin 16, ((b.computed st).samples[i]).InRange := fun i => by
    rw [computed_samples]
    exact inRange_aged (h.1 i) _
  exact ⟨hslots, statsOf_inOrder (validValues_le (b := b.computed st) hslots) _⟩

theorem inRange_loadedBank (b : ProbeBank) : b.loaded.InRange :=
  ⟨fun i => by simpa [ProbeBank.loaded] using inRange_loaded _, nofun⟩

theorem inRange_resetBank (b : ProbeBank) : b.reset.InRange :=
  ⟨fun i => by simpa [ProbeBank.reset] using inRange_clearedSlot _, nofun⟩

theorem inRange_clearedBank : ProbeBank.cleared.InRange :=
  ⟨fun i => by simpa [ProbeBank.cleared] using inRange_clearedSlot _, nofun⟩

@[simp] theorem enable_stats (slots : BitVec 16) (b : ProbeBank) : (b.enable slots).stats = b.stats := by
  simp only [ProbeBank.enable]

theorem inRange_enableBank (h : b.InRange) (slots : BitVec 16) : (b.enable slots).InRange :=
  ⟨fun i => by simpa [ProbeBank.enable] using inRange_enable (h.1 i) _, h.2⟩

theorem inRange_tickBank (h : b.InRange) : b.tick.InRange :=
  ⟨fun i => by
    have hi : b.tick.samples[i] = (b.samples[i]).tick := by simp [ProbeBank.tick]
    rw [hi]
    exact h.1 i, h.2⟩

end

/-! ### Changes that leave the Moisture unit alone -/

/-- The probe records with the Moisture unit's statistics, and the chambers' copies of those. -/
def State.moisture (s : State) : Vector ProbeBank 4 × Vector Stats 4 := (s.probes, s.chambers.map Chamber.latest)

section
variable {s t : State} {c : ChamberNo}

theorem moistureInRange_of_eq (h : t.moisture = s.moisture) (hs : s.MoistureInRange) : t.MoistureInRange := by
  obtain ⟨hp, hl⟩ := Prod.mk.inj h
  refine moistureInRange_iff.2 fun c => ?_
  have hb : t.bank c = s.bank c := by rw [State.bank, hp, State.bank]
  have hx : (t.chamber c).latest = (s.chamber c).latest := by
    simpa [State.chamber] using congrArg (fun v : Vector Stats 4 => v[c]) hl
  rw [hb, hx]
  exact moistureInRange_iff.1 hs c

theorem moisture_of_same (hp : t.probes = s.probes) (hc : t.chambers = s.chambers) : t.moisture = s.moisture := by
  rw [State.moisture, hp, hc, State.moisture]

@[simp] theorem moisture_raise (s : State) (n : Notice) : (s.raise n).moisture = s.moisture := rfl

@[simp] theorem moisture_offer (s : State) (c : ChamberNo) (ev : Event) : (s.offer c ev).moisture = s.moisture := rfl

@[simp] theorem moisture_setMonitor (s : State) (c : ChamberNo) (d : DoorMonitor) :
    (s.setMonitor c d).moisture = s.moisture := rfl

@[simp] theorem moisture_modBound (s : State) (c : ChamberNo) (f : Charge → Charge) :
    (s.modBound c f).moisture = s.moisture := rfl

/-- A change of one chamber's record that keeps its statistics, and of what neither is in. -/
theorem moisture_of_set {x : Chamber} (hp : t.probes = s.probes) (hc : t.chambers = s.chambers.set c x)
    (hx : x.latest = (s.chamber c).latest) : t.moisture = s.moisture := by
  have hset : (s.chambers.map Chamber.latest).set c (s.chamber c).latest = s.chambers.map Chamber.latest := by
    simpa [State.chamber] using Vector.set_getElem_self (xs := s.chambers.map Chamber.latest) (i := c) (by simp)
  rw [State.moisture, hp, hc, Vector.map_set, hx, hset, State.moisture]

@[simp] theorem moisture_modChamber {f : Chamber → Chamber} (h : ∀ x, (f x).latest = x.latest) :
    (s.modChamber c f).moisture = s.moisture := moisture_of_set rfl rfl (h _)

theorem moisture_ite {p : Prop} [Decidable p] {u : State} (ht : t.moisture = s.moisture) (hu : u.moisture = s.moisture) :
    (if p then t else u).moisture = s.moisture :=
  ite_keeps (P := fun t => t.moisture = s.moisture) ht hu

/-! ### Steps, cooling and completion -/

@[simp] theorem moisture_stepChange (s : State) (c : ChamberNo) (i : Nat) (st : Step) :
    (s.stepChange c i st).moisture = s.moisture := moisture_of_set rfl rfl rfl

@[simp] theorem moisture_intoCooling (s : State) (c : ChamberNo) (coolTemp : Nat) :
    (s.intoCooling c coolTemp).moisture = s.moisture := moisture_of_set rfl rfl rfl

@[simp] theorem moisture_complete (s : State) (c : ChamberNo) : (s.complete c).moisture = s.moisture :=
  moisture_of_set rfl rfl rfl

@[simp] theorem moisture_coolingEvents (s : State) (c : ChamberNo) (cause : CoolingCause) (coolTime : Nat) :
    (s.coolingEvents c cause coolTime).moisture = s.moisture := by
  have hevents : (if cause = .abort then s.offer c (.cooling cause) else (s.offer c (.cooling cause)).raise .step).moisture =
      s.moisture := moisture_ite rfl rfl
  exact moisture_ite ((moisture_complete _ c).trans hevents) hevents

/-! ### Requests -/

@[simp] theorem moisture_beginRun (s : State) (c : ChamberNo) (origin : Port) (i : Nat) (st : Step) :
    (s.beginRun c origin i st).moisture = s.moisture := moisture_of_set rfl rfl rfl

@[simp] theorem moisture_unbind (s : State) (c : ChamberNo) (k : Fin 8) (st : ChargeState) :
    (s.unbind c k st).moisture = s.moisture := moisture_of_set rfl rfl rfl

@[simp] theorem moisture_abortRun (s : State) (c : ChamberNo) (sch : Schedule) :
    (s.abortRun c sch).moisture = s.moisture := by
  simp [State.abortRun]

/-! ### The evaluation instant -/

@[simp] theorem moisture_blindHold (s : State) (c : ChamberNo) : (s.blindHold c).moisture = s.moisture := by
  simp [State.blindHold]

@[simp] theorem moisture_countStage (s : State) (c : ChamberNo) : (s.countStage c).moisture = s.moisture := by
  have hcount : ∀ n, (s.setChamber c { s.chamber c with invalidCount := n }).moisture = s.moisture := fun _ =>
    moisture_of_set rfl rfl rfl
  exact moisture_ite ((moisture_blindHold _ c).trans (hcount _)) (hcount _)

@[simp] theorem moisture_manualAdvance (s : State) (c : ChamberNo) (v : RunView) (cmd : RunCommand) (cause : CoolingCause)
    (next : Option (Nat × Step)) : (s.manualAdvance c v cmd cause next).moisture = s.moisture := by
  unfold State.manualAdvance
  split <;> simp

@[simp] theorem moisture_carryOut (s : State) (c : ChamberNo) (v : RunView) (cmd : RunCommand) :
    (s.carryOut c v cmd).moisture = s.moisture := by
  cases cmd with
  | hold => exact moisture_ite (moisture_of_set rfl rfl rfl) rfl
  | resume => exact moisture_ite (moisture_of_set rfl rfl rfl) rfl
  | step | skipPhase => exact moisture_manualAdvance s c v _ _ _

@[simp] theorem moisture_commandStage (s : State) (c : ChamberNo) (v : RunView) :
    (s.commandStage c v).moisture = s.moisture := by
  have htaken : ∀ rest, (s.setChamber c { s.chamber c with queue := rest }).moisture = s.moisture := fun _ =>
    moisture_of_set rfl rfl rfl
  unfold State.commandStage
  dsimp only
  split
  · exact (moisture_carryOut _ c v _).trans (htaken _)
  · exact (moisture_carryOut _ c v _).trans (htaken _)
  · rfl

@[simp] theorem moisture_ramped (s : State) (c : ChamberNo) (loaded : Nat) (st : Step) :
    (s.modChamber c (Chamber.ramped loaded st)).moisture = s.moisture := moisture_of_set rfl rfl rfl

@[simp] theorem moisture_runStage (s : State) (c : ChamberNo) (v : RunView) (loaded : Nat) :
    (s.runStage c v loaded).moisture = s.moisture := by
  unfold State.runStage
  dsimp only
  split
  · split <;> simp
  · simp

@[simp] theorem moisture_coolingStage (s : State) (c : ChamberNo) (v : RunView) (loaded : Nat) :
    (s.coolingStage c v loaded).moisture = s.moisture := by
  unfold State.coolingStage
  dsimp only
  split <;> simp

@[simp] theorem moisture_countdownStage (s : State) (c : ChamberNo) : (s.countdownStage c).moisture = s.moisture :=
  moisture_ite rfl (moisture_of_set rfl rfl rfl)

/-- After its statistics stage an instant leaves the Moisture unit alone. -/
theorem moisture_evaluate (s : State) (c : ChamberNo) (v : RunView) (loaded : Nat) :
    (s.evaluate c v loaded).moisture = (s.computeStats c).moisture := by
  have hserved : (((s.statsStage c).countStage c).commandStage c v).moisture = (s.computeStats c).moisture := by
    simp [State.statsStage]
  have hrun := fun p [Decidable p] => moisture_ite (p := p) ((moisture_runStage _ c v loaded).trans hserved) hserved
  exact (moisture_countdownStage _ c).trans (moisture_ite ((moisture_coolingStage _ c v loaded).trans (hrun _)) (hrun _))

/-! ### Doors -/

@[simp] theorem moisture_opened (s : State) (c : ChamberNo) : (s.opened c).moisture = s.moisture := by
  unfold State.opened
  split
  · exact moisture_of_set rfl rfl rfl
  · exact moisture_of_set rfl rfl rfl
  all_goals rfl

@[simp] theorem moisture_endHold (s : State) (c : ChamberNo) (h : DoorHold) (ret : ChamberState) :
    (s.endHold c h ret).moisture = s.moisture := by
  unfold State.endHold
  dsimp only
  split <;> simp

@[simp] theorem moisture_shut (s : State) (c : ChamberNo) : (s.shut c).moisture = s.moisture := by
  unfold State.shut
  split
  · exact moisture_endHold s c _ _
  · rfl

@[simp] theorem moisture_acceptDoor (s : State) (c : ChamberNo) (level : DoorLevel) :
    (s.acceptDoor c level).moisture = s.moisture := by
  cases level with
  | opened => exact (moisture_opened _ c).trans (moisture_setMonitor s c _)
  | closed => exact (moisture_shut _ c).trans (moisture_setMonitor s c _)

@[simp] theorem moisture_sampleDoor (s : State) (c : ChamberNo) (level : DoorLevel) :
    (s.sampleDoor c level).moisture = s.moisture := by
  unfold State.sampleDoor
  dsimp only
  split
  · rfl
  · split
    · rfl
    · exact moisture_ite ((moisture_acceptDoor _ c level).trans rfl) rfl

/-! ### The return of main power -/

@[simp] theorem moisture_doorAtReturn (s : State) (c : ChamberNo) : (s.doorAtReturn c).moisture = s.moisture := by
  unfold State.doorAtReturn
  split
  case h_7 | h_8 | h_9 | h_10 => rfl
  all_goals exact moisture_of_set rfl rfl rfl

@[simp] theorem moisture_chamberReturn (s : State) (c : ChamberNo) (level : DoorLevel) :
    (s.chamberReturn c level).moisture = s.moisture := by
  have hset := (moisture_doorAtReturn _ c).trans
    (moisture_setMonitor s c { s.monitor c with input := level, door := level, debounce := none })
  unfold State.chamberReturn
  dsimp only
  generalize State.doorAtReturn c _ = u at hset
  have hcount : (u.modChamber c Chamber.atReturn).moisture = s.moisture := by
    refine Eq.trans (moisture_of_set (s := u) rfl rfl ?_) hset
    unfold Chamber.atReturn
    split <;> rfl
  have hmark := fun p [Decidable p] => moisture_ite (p := p)
    (t := ((u.modChamber c Chamber.atReturn).modBound c (Charge.mark .powerHold)).raise .held) hcount hcount
  exact moisture_ite (hmark _) ((moisture_offer _ c _).trans (hmark _))

@[simp] theorem moisture_powerReturn (s : State) (d0 d1 d2 d3 : DoorLevel) :
    (s.powerReturn d0 d1 d2 d3).moisture = s.moisture := by
  simp only [State.powerReturn, moisture_chamberReturn]
  rfl

@[simp] theorem moisture_portReset (s : State) : s.portReset.moisture = s.moisture := by
  simp only [State.moisture, State.portReset, Vector.map_map]
  rfl

/-! ### Changes of one probe bank -/

theorem bank_setBank (s : State) (c d : ChamberNo) (b : ProbeBank) :
    (s.setBank c b).bank d = if c = d then b else s.bank d := by
  split
  · rename_i h; subst h; simp
  · rename_i h; exact State.bank_setBank_other s b h

/-- Slots of one chamber changed, its statistics kept. -/
theorem moistureInRange_setBank {b : ProbeBank} (hs : s.MoistureInRange) (hb : b.InRange) (hst : b.stats = (s.bank c).stats) :
    (s.setBank c b).MoistureInRange := moistureInRange_iff.2 fun d => by
  rw [bank_setBank, State.setBank_chamber]
  split
  · rename_i h
    subst h
    exact ⟨hb, (moistureInRange_iff.1 hs c).2.trans hst.symm⟩
  · exact moistureInRange_iff.1 hs d

/-- The probe records of one chamber changed, and its copy of their statistics with them. -/
theorem moistureInRange_both {b : ProbeBank} {x : Chamber} (hs : s.MoistureInRange) (hb : b.InRange) (hx : x.latest = b.stats) :
    ((s.setBank c b).setChamber c x).MoistureInRange := moistureInRange_iff.2 fun d => by
  rw [chamber_setChamber, State.setChamber_bank, bank_setBank, State.setBank_chamber]
  split
  · exact ⟨hb, hx⟩
  · exact moistureInRange_iff.1 hs d

/-- R50, R76: one computation of statistics gives both records the same. -/
theorem moistureInRange_computeStats (hs : s.MoistureInRange) (c : ChamberNo) : (s.computeStats c).MoistureInRange :=
  moistureInRange_both hs (inRange_computed (moistureInRange_iff.1 hs c).1 _) rfl

/-- R52, R64: LOAD gives both records no statistics. -/
theorem moistureInRange_bind (hs : s.MoistureInRange) (c : ChamberNo) (k : Fin 8) : (s.bind c k).MoistureInRange :=
  moistureInRange_of_eq (s := (s.setBank c (s.bank c).loaded).setChamber c ((s.chamber c).bindTo k)) rfl
    (moistureInRange_both hs (inRange_loadedBank _) rfl)

/-! ### Readings -/

theorem moistureInRange_probeFaulted (hs : s.MoistureInRange) (slot : Nat) (cause : Option FaultCause) :
    (s.probeFaulted c slot cause).MoistureInRange := moistureInRange_of_eq rfl hs

theorem moistureInRange_sampleReading (hs : s.MoistureInRange) {i : Fin 16} {code : Nat}
    (h : sampleReading c i code s = some t) : t.MoistureInRange := by
  have hbank := (moistureInRange_iff.1 hs c).1
  have hset : ∀ x : SampleSlot, x.InRange → (s.setBank c ((s.bank c).setSample i x)).MoistureInRange := fun x hx =>
    moistureInRange_setBank hs (inRange_setSample hbank hx) rfl
  have hslot : (((s.bank c).samples[i]).stored code s.stamp).InRange := hbank.1 i
  unfold sampleReading at h
  dsimp only at h
  split at h
  · cases h; exact hset _ hslot
  · split at h
    · cases h
      split
      · exact hset _ (inRange_faulted hslot _)
      · exact moistureInRange_probeFaulted (hset _ (inRange_faulted hslot _)) _ _
    · obtain ⟨sp, -, rfl⟩ := Option.map_eq_some_iff.1 h
      exact hset _ (inRange_converted hslot sp _ _ _)

theorem moistureInRange_dryBulbReading (hs : s.MoistureInRange) (code : Nat) : (dryBulbReading c code s).MoistureInRange := by
  have hset : ∀ d : DryBulb, (s.setBank c { s.bank c with dryBulb := d }).MoistureInRange := fun d =>
    moistureInRange_setBank hs (moistureInRange_iff.1 hs c).1 rfl
  unfold dryBulbReading
  dsimp only
  split
  · exact hset _
  · split
    · split
      · exact hset _
      · exact moistureInRange_probeFaulted (hset _) _ _
    · exact hset _

theorem moistureInRange_takeReading (hs : s.MoistureInRange) {chamber channel code : Nat}
    (h : takeReading chamber channel code s = some t) : t.MoistureInRange := by
  unfold takeReading at h
  split at h
  · split at h
    · exact moistureInRange_sampleReading hs h
    · split at h
      · cases h; exact moistureInRange_dryBulbReading hs code
      · cases h; exact hs
  · cases h; exact hs

theorem execProbeFrame_moistureInRange (hs : s.MoistureInRange) {chamber channel high low check : Byte}
    (h : execProbeFrame chamber channel high low check s = .next t) : t.MoistureInRange := by
  unfold execProbeFrame at h
  split at h
  · split at h
    · exact moistureInRange_takeReading (s := { s with probeRx := .hunt }) hs (orBroken_eq_next.1 h)
    · cases h; exact hs
  · cases h; exact hs

/-! ### Owners of requests -/

theorem probeEnableOwner_moistureInRange (hs : s.MoistureInRange) (params : List Byte) :
    Answered State.MoistureInRange (probeEnableOwner params s) := by
  unfold probeEnableOwner
  split
  · refine answered_withChamber hs fun c => ?_
    exact answered_some (moistureInRange_setBank hs (inRange_enableBank (moistureInRange_iff.1 hs c).1 _)
      (enable_stats _ _))
  · exact answered_some hs

/-- R53, R54: CHECK clamps the offset and the accepted MC it stores. -/
theorem checkSlot_moistureInRange (hs : s.MoistureInRange) (i : Fin 16) (mc a : Nat) :
    Answered State.MoistureInRange (checkSlot c i mc a s) := by
  have hslot : ∀ sum acc : Int, SampleSlot.InRange { (s.bank c).samples[i] with
      trust := .good (clampInt 0 600 acc).toNat, offset := clampInt (-50) 50 sum } := fun sum acc => by
    refine ⟨clampInt_range (by decide) sum, fun b hb => ?_⟩
    obtain rfl := Option.some.inj hb
    exact clampMc_le acc
  exact answered_some (moistureInRange_of_eq (moisture_offer _ c _)
    (moistureInRange_setBank hs (inRange_setSample (moistureInRange_iff.1 hs c).1 (hslot _ _)) rfl))

theorem checkOwner_moistureInRange (hs : s.MoistureInRange) (params : List Byte) :
    Answered State.MoistureInRange (checkOwner params s) := by
  unfold checkOwner
  split
  · split
    · split
      · exact answered_some hs
      · split
        · exact answered_some hs
        · split
          · exact checkSlot_moistureInRange hs _ _ _
          all_goals exact answered_some hs
    · exact answered_some hs
  · exact answered_some hs

theorem loadOwner_moistureInRange (hs : s.MoistureInRange) (params : List Byte) :
    Answered State.MoistureInRange (loadOwner params s) := by
  unfold loadOwner
  split
  · refine answered_withChamber hs fun c => ?_
    split
    · exact answered_some hs
    · split
      · exact answered_some hs
      · split
        · exact answered_some hs
        · exact answered_some (moistureInRange_bind hs c _)
  · exact answered_some hs

theorem startOwner_moistureInRange (hs : s.MoistureInRange) (origin : Port) (params : List Byte) :
    Answered State.MoistureInRange (startOwner origin params s) := by
  unfold startOwner
  split
  · refine answered_withChamber hs fun c => ?_
    split
    · exact answered_some hs
    · split
      · exact answered_some hs
      · split
        · exact answered_none
        · dsimp only
          split
          · exact answered_none
          · exact answered_some (moistureInRange_of_eq (moisture_beginRun _ c _ _ _) (moistureInRange_computeStats hs c))
  · exact answered_some hs

theorem abortOwner_moistureInRange (hs : s.MoistureInRange) (params : List Byte) :
    Answered State.MoistureInRange (abortOwner params s) := by
  unfold abortOwner
  split
  · refine answered_withChamber hs fun c => ?_
    split
    · exact answered_some hs
    · split
      · exact answered_none
      · exact answered_some (moistureInRange_of_eq (moisture_abortRun s c _) hs)
  · exact answered_some hs

theorem releaseOwner_moistureInRange (hs : s.MoistureInRange) (params : List Byte) :
    Answered State.MoistureInRange (releaseOwner params s) := by
  unfold releaseOwner
  split
  · refine answered_withChamber hs fun c => ?_
    split
    · exact answered_some hs
    · split
      · exact answered_none
      · exact answered_some (moistureInRange_of_eq (moisture_unbind s c _ _) hs)
  · exact answered_some hs

theorem queueOwner_moistureInRange (hs : s.MoistureInRange) (cmd : RunCommand) (params : List Byte) :
    Answered State.MoistureInRange (queueOwner cmd params s) := by
  unfold queueOwner
  split
  · refine answered_withChamber hs fun c => ?_
    dsimp only
    split
    · exact answered_some hs
    · split
      · exact answered_some hs
      · exact answered_some (moistureInRange_of_eq (s := s) (moisture_of_set rfl rfl rfl) hs)
  · exact answered_some hs

theorem chamberSetOwner_moistureInRange (hs : s.MoistureInRange) (params : List Byte) :
    Answered State.MoistureInRange (chamberSetOwner params s) := by
  unfold chamberSetOwner
  split
  · refine answered_withChamber hs fun c => ?_
    split
    · exact answered_some hs
    · exact answered_some (moistureInRange_of_eq (s := s) (moisture_of_set rfl rfl rfl) hs)
  · exact answered_some hs

/-! ### Instants, resets and start-ups -/

theorem execEvaluationInstant_moistureInRange (hs : s.MoistureInRange) (h : execEvaluationInstant c s = .next t) :
    t.MoistureInRange := by
  refine whilePowered_keeps hs (fun h => ?_) h
  split at h
  · split at h
    · obtain ⟨v, -, rfl⟩ := Option.map_eq_some_iff.1 (orBroken_eq_next.1 h)
      exact moistureInRange_of_eq (moisture_evaluate s c v _) (moistureInRange_computeStats hs c)
    · cases h; exact hs
  · cases h; exact hs

theorem moistureInRange_clearReset (s : State) : s.clearReset.MoistureInRange := moistureInRange_iff.2 fun c => by
  have hb : s.clearReset.bank c = (s.bank c).reset := by simp [State.bank, State.clearReset]
  have hx : s.clearReset.chamber c = Chamber.cleared (s.chamber c).settings := by simp [State.chamber, State.clearReset]
  rw [hb, hx]
  exact ⟨inRange_resetBank _, rfl⟩

theorem moistureInRange_cleared (d0 d1 d2 d3 : DoorLevel) (vbat : Bool) (baud : Baud) (queue : List Instr) :
    (State.cleared d0 d1 d2 d3 vbat baud queue).MoistureInRange := moistureInRange_iff.2 fun c => by
  have hb : (State.cleared d0 d1 d2 d3 vbat baud queue).bank c = ProbeBank.cleared := by simp [State.bank, State.cleared]
  have hx : (State.cleared d0 d1 d2 d3 vbat baud queue).chamber c = Chamber.cleared Settings.default := by
    simp [State.chamber, State.cleared]
  rw [hb, hx]
  exact ⟨inRange_clearedBank, rfl⟩

theorem moistureInRange_mainReturns (hs : s.MoistureInRange) (d0 d1 d2 d3 : DoorLevel) :
    (s.mainReturns d0 d1 d2 d3).MoistureInRange :=
  ite_keeps (moistureInRange_of_eq (moisture_powerReturn s d0 d1 d2 d3) hs) (moistureInRange_cleared d0 d1 d2 d3 _ _ _)

/-! ### Every command -/

/-- Every command keeps the Moisture unit in range: it leaves it alone, or stores clamped values and computed statistics. -/
theorem exec_moistureInRange {i : Instr} (hs : s.MoistureInRange) (h : exec i s = .next t) : t.MoistureInRange := by
  have hrequest : ∀ {r p tag} {owner : State → Owned}, Answered State.MoistureInRange (owner s) →
      request r p tag owner s = .next t → t.MoistureInRange := fun ho h => request_keeps (fun _ _ hu => hu) hs ho h
  cases hc : actsOnChambers i with
  | false =>
    cases hp : actsOnProbes i with
    | false => exact moistureInRange_of_eq (moisture_of_same (exec_probes hc hp h) (exec_chambers hc h)) hs
    | true =>
      cases i with
      | check _ _ ps => exact hrequest (checkOwner_moistureInRange hs ps) h
      | probeEnable _ _ ps => exact hrequest (probeEnableOwner_moistureInRange hs ps) h
      | probeFrame => exact execProbeFrame_moistureInRange hs h
      | _ => cases hp
  | true =>
    cases i with
    | load _ _ ps => exact hrequest (loadOwner_moistureInRange hs ps) h
    | start p _ ps => exact hrequest (startOwner_moistureInRange hs p ps) h
    | hold _ _ ps => exact hrequest (queueOwner_moistureInRange hs .hold ps) h
    | resume _ _ ps => exact hrequest (queueOwner_moistureInRange hs .resume ps) h
    | step _ _ ps => exact hrequest (queueOwner_moistureInRange hs .step ps) h
    | skipPhase _ _ ps => exact hrequest (queueOwner_moistureInRange hs .skipPhase ps) h
    | abort _ _ ps => exact hrequest (abortOwner_moistureInRange hs ps) h
    | release _ _ ps => exact hrequest (releaseOwner_moistureInRange hs ps) h
    | chamberSet _ _ ps => exact hrequest (chamberSetOwner_moistureInRange hs ps) h
    | evaluationInstant => exact execEvaluationInstant_moistureInRange hs h
    | doorInputChange c level =>
      exact whilePowered_keeps hs (next_keeps (moistureInRange_of_eq (moisture_sampleDoor s c level) hs)) h
    | doorDebounceExpiry c =>
      exact whilePowered_keeps hs (next_keeps (ite_keeps (moistureInRange_of_eq (moisture_acceptDoor s c _) hs) hs)) h
    | powerReturn d0 d1 d2 d3 => exact next_keeps (ite_keeps hs (moistureInRange_mainReturns hs d0 d1 d2 d3)) h
    | clearedStart d0 d1 d2 d3 => exact next_keeps (ite_keeps hs (moistureInRange_mainReturns hs d0 d1 d2 d3)) h
    | portReset => exact whilePowered_keeps hs (next_keeps (moistureInRange_of_eq (moisture_portReset s) hs)) h
    | clearReset => exact whilePowered_keeps hs (next_keeps (moistureInRange_clearReset s)) h
    | _ => cases hc

/-! ### Steps -/

/-- Reading ages are no part of what R50 and R54 ask. -/
theorem moistureInRange_tickBackup (hs : s.MoistureInRange) : s.tickBackup.MoistureInRange :=
  moistureInRange_iff.2 fun c => by
    have hb : s.tickBackup.bank c = (s.bank c).tick := by simp [State.bank, State.tickBackup]
    obtain ⟨hr, hx⟩ := moistureInRange_iff.1 hs c
    rw [hb]
    exact ⟨inRange_tickBank hr, hx⟩

theorem moisture_tickMain (s : State) : s.tickMain.moisture = s.moisture := by
  simp only [State.moisture, State.tickMain, Vector.map_map]
  rfl

theorem moistureInRange_idle (hs : s.MoistureInRange) : s.idle.MoistureInRange := by
  unfold State.idle
  split
  · have hb := moistureInRange_tickBackup hs
    exact ite_keeps (moistureInRange_of_eq (moisture_tickMain s.tickBackup) hb) hb
  · exact hs

end

/-- Settles O55: by the command at the front of the queue, or what happens when none waits. -/
theorem moistureKept : Obligations.MoistureKept := by
  intro s t h hs
  obtain ⟨i, rest, -, hexec⟩ | ⟨-, rfl⟩ := step_next h
  · exact exec_moistureInRange (s := { s with pending := rest }) hs hexec
  · exact moistureInRange_idle hs

end Sys2Proof.Machine
end

-- ==== Proofs: the conversion of a code ====
section
/-! R42, R43: the curve stage, from whichever segment holds the code, and the temperature stage with its factor. -/

namespace Sys2Proof.Machine

/-! ### Segments of a curve -/

/-- The raw MC that the segment from `a` to `b` gives for a code (R42). -/
def interpolated (a b : Breakpoint) (code : Nat) : Nat :=
  a.mc - ((a.mc - b.mc) * (code - a.code) + (b.code - a.code) / 2) / (b.code - a.code)

theorem segmentMc_cons (a b : Breakpoint) (rest : List Breakpoint) (code : Nat) :
    segmentMc code (a :: b :: rest) =
      if a.code ≤ code ∧ code ≤ b.code then some (interpolated a b code) else segmentMc code (b :: rest) := by
  simp only [segmentMc, interpolated, Bool.and_eq_true, decide_eq_true_eq]

/-- The drop is nothing at the start of a segment, and within it no more than at its end. -/
theorem drop_le {d s u : Nat} (hs : 0 < s) : (u = 0 → (d * u + s / 2) / s = 0) ∧ (u ≤ s → (d * u + s / 2) / s ≤ d) := by
  have hhalf : s / 2 < s := Nat.div_lt_self hs (by decide)
  refine ⟨?_, fun hu => ?_⟩
  · rintro rfl
    rw [Nat.mul_zero, Nat.zero_add, Nat.div_eq_of_lt hhalf]
  · have := Nat.mul_le_mul_left d hu
    rw [← Nat.lt_succ_iff, Nat.div_lt_iff_lt_mul hs, Nat.succ_mul]
    omega

theorem interpolated_start {a b : Breakpoint} (h : a.code < b.code) : interpolated a b a.code = a.mc := by
  have hs : 0 < b.code - a.code := by omega
  rw [interpolated, (drop_le hs).1 (Nat.sub_self _), Nat.sub_zero]

theorem interpolated_end {a b : Breakpoint} (h : a.code < b.code) (hmc : b.mc < a.mc) : interpolated a b b.code = b.mc := by
  have hs : 0 < b.code - a.code := by omega
  have hhalf : (b.code - a.code) / 2 < b.code - a.code := Nat.div_lt_self hs (by decide)
  rw [interpolated, Nat.add_comm, Nat.add_mul_div_right _ _ hs, Nat.div_eq_of_lt hhalf]
  omega

/-- A curve's codes rise and its MCs fall (R30). -/
def FallingCurve (l : List Breakpoint) : Prop := l.Pairwise fun a b => a.code < b.code ∧ b.mc < a.mc

/-- Every segment that holds a code gives the raw MC of the lowest that does. -/
theorem segmentMc_eq {l : List Breakpoint} (hl : FallingCurve l) {code i : Nat} (hi : i + 1 < l.length)
    (hlo : l[i].code ≤ code) (hhi : code ≤ l[i + 1].code) : segmentMc code l = some (interpolated l[i] l[i + 1] code) := by
  induction l generalizing i with
  | nil => simp at hi
  | cons a tail ih =>
    obtain ⟨ha, htail⟩ := List.pairwise_cons.1 hl
    cases tail with
    | nil => simp at hi
    | cons b rest =>
      rw [segmentMc_cons]
      cases i with
      | zero => rw [if_pos ⟨hlo, hhi⟩]; rfl
      | succ i =>
        simp only [List.getElem_cons_succ] at hlo hhi ⊢
        split
        · rename_i hseg
          cases i with
          | zero =>
            obtain rfl : code = b.code := Nat.le_antisymm hseg.2 hlo
            obtain ⟨hcode, hmc⟩ := ha b List.mem_cons_self
            have hnext := (List.pairwise_iff_getElem.1 htail 0 1 (by simp) (by simpa using hi) (by decide)).1
            rw [interpolated_end hcode hmc]
            exact congrArg some (interpolated_start hnext).symm
          | succ j =>
            have hpast := (List.pairwise_iff_getElem.1 htail 0 (j + 1) (by simp) (by simp at hi ⊢; omega) (by omega)).1
            exact absurd (hpast.trans_le (hlo.trans hseg.2)) (Nat.lt_irrefl _)
        · exact ih htail (by simpa using hi) hlo hhi

/-! ### The curve stage -/

section
variable {sp : Species} {code : Nat}

theorem Species.Valid.points_lt (h : sp.Valid) {i j : Nat} (hj : j < 6) (hij : i < j) :
    sp.points[i].code < sp.points[j].code ∧ sp.points[j].mc < sp.points[i].mc :=
  List.pairwise_iff_getElem.1 h.2.1 i j (by simp; omega) (by simpa using hj) hij

theorem Species.Valid.points_le (h : sp.Valid) {i j : Nat} (hj : j < 6) (hij : i ≤ j) :
    sp.points[i].code ≤ sp.points[j].code := by
  obtain rfl | hlt := Nat.eq_or_lt_of_le hij
  · exact le_rfl
  · exact (h.points_lt hj hlt).1.le

theorem Species.Valid.mc_le (h : sp.Valid) {i : Nat} (hi : i < 6) : sp.points[i].mc ≤ 600 :=
  (h.1 sp.points[i] (by simp)).2

/-- A code between the ends of a curve lies in a segment. -/
theorem exists_segment (sp : Species) (hlo : sp.points[0].code ≤ code) (hhi : code ≤ sp.points[5].code) :
    ∃ i : Fin 5, sp.points[i.val].code ≤ code ∧ code ≤ sp.points[i.val + 1].code := by
  by_contra hnone
  have hpast : ∀ i : Fin 5, sp.points[i.val].code ≤ code → sp.points[i.val + 1].code ≤ code := fun i hi =>
    (Nat.lt_of_not_le fun h => hnone ⟨i, hi, h⟩).le
  have h4 := hpast 3 (hpast 2 (hpast 1 (hpast 0 hlo)))
  exact hnone ⟨4, h4, hhi⟩

/-- R42: the raw MC of a code in a segment, with no flag. -/
theorem rawMc_of_segment (h : sp.Valid) {i : Fin 5} (hlo : sp.points[i.val].code ≤ code) (hhi : code ≤ sp.points[i.val + 1].code) :
    sp.rawMc code = (interpolated sp.points[i.val] sp.points[i.val + 1] code, false, false) := by
  have hfirst := h.points_le (i := 0) (j := i.val) (by omega) (Nat.zero_le _)
  have hlast := h.points_le (i := i.val + 1) (j := 5) (by decide) (by omega)
  have hseg := segmentMc_eq (l := sp.points.toList) h.2.1 (code := code) (i := i.val) (by simp; omega) hlo hhi
  rw [Species.rawMc, if_neg (by omega), if_neg (by omega), hseg]
  rfl

/-- R42: a breakpoint's code gives its MC. -/
theorem rawMc_of_point (h : sp.Valid) (j : Fin 6) : sp.rawMc sp.points[j].code = (sp.points[j].mc, false, false) := by
  cases j using Fin.lastCases with
  | last =>
    obtain ⟨hcode, hmc⟩ := h.points_lt (i := 4) (j := 5) (by decide) (by decide)
    have hraw := rawMc_of_segment h (i := 4) (code := sp.points[5].code) hcode.le le_rfl
    exact hraw.trans (congrArg (·, false, false) (interpolated_end hcode hmc))
  | cast i =>
    have hcode := (h.points_lt (i := i.val) (j := i.val + 1) (by omega) (Nat.lt_succ_self _)).1
    have hraw := rawMc_of_segment h (i := i) (code := sp.points[i.val].code) le_rfl hcode.le
    exact hraw.trans (congrArg (·, false, false) (interpolated_start hcode))

theorem rawMc_le (h : sp.Valid) (code : Nat) : (sp.rawMc code).1 ≤ 600 := by
  by_cases hlo : code < sp.points[0].code
  · rw [Species.rawMc, if_pos hlo]
    exact h.mc_le (by decide)
  by_cases hhi : sp.points[5].code < code
  · rw [Species.rawMc, if_neg hlo, if_pos hhi]
    exact h.mc_le (by decide)
  obtain ⟨i, hi, hi'⟩ := exists_segment sp (Nat.le_of_not_lt hlo) (Nat.le_of_not_lt hhi)
  rw [rawMc_of_segment h hi hi']
  exact (Nat.sub_le _ _).trans (h.mc_le (by omega))

end

/-- Settles O18: the ends of the curve by definition, and each segment by the lowest that holds the code. -/
theorem curveStage : Obligations.CurveStage := by
  intro sp code h
  refine ⟨fun hlo => if_pos hlo, fun hhi => ?_, exists_segment sp, ?_, ?_, rawMc_le h code⟩
  · have hends := h.points_le (i := 0) (j := 5) (by decide) (by decide)
    rw [Species.rawMc, if_neg (by omega), if_pos hhi]
  · rintro i d s u drop hlo hhi rfl rfl rfl rfl
    obtain ⟨hcode, hmc⟩ := h.points_lt (i := i.val) (j := i.val + 1) (by omega) (Nat.lt_succ_self _)
    exact ⟨by omega, by omega, (drop_le (by omega)).2 (by omega), rawMc_of_segment h hlo hhi⟩
  · rintro j rfl
    exact rawMc_of_point h j

/-! ### The temperature stage -/

/-- The quotient of R43 is the nearest whole number, an exact half away from zero. -/
theorem roundTenth_eq {m q : Int} (hpos : 0 ≤ m → 10 * q - 5 ≤ m ∧ m < 10 * q + 5)
    (hneg : m < 0 → 10 * q - 5 < m ∧ m ≤ 10 * q + 5) : roundTenth m = q := by
  unfold roundTenth
  split
  · have := hpos ‹_›
    omega
  · have := hneg (by omega)
    omega

/-- The factor is 4096 less the quotient, within 2048..6144 (R43). -/
theorem temperatureFactor_eq (coeff temperature : Nat) :
    (temperatureFactor coeff temperature : Int) =
      max 2048 (min 6144 (4096 - roundTenth ((coeff : Int) * ((temperature : Int) - 200)))) := by
  rw [temperatureFactor, clampInt]
  omega

/-- Settles O19: the factor lies on the side of 4096 that the temperature's side of 20.0 °C asks for. -/
theorem temperatureStage : Obligations.TemperatureStage := by
  rintro c temperature raw m q rfl hpos hneg
  have hfactor := temperatureFactor_eq c temperature
  rw [roundTenth_eq hpos hneg] at hfactor
  have hwarm : 200 ≤ temperature → 0 ≤ (c : Int) * ((temperature : Int) - 200) := fun h =>
    mul_nonneg (by omega) (by omega)
  have hcold : temperature ≤ 200 → (c : Int) * ((temperature : Int) - 200) ≤ 0 := fun h =>
    mul_nonpos_of_nonneg_of_nonpos (by omega) (by omega)
  have hzero : temperature = 200 ∨ c = 0 → (c : Int) * ((temperature : Int) - 200) = 0 := by
    rintro (rfl | rfl) <;> simp
  rw [correctedMc]
  generalize temperatureFactor c temperature = factor at hfactor
  generalize (c : Int) * ((temperature : Int) - 200) = m at hpos hneg hwarm hcold hzero
  refine ⟨by rw [← hfactor]; push_cast; rfl, fun h => ?_, fun h => ?_, fun h => ?_, fun h => ?_, fun h => ?_, fun h => ?_⟩
  · have hm := hzero h
    obtain rfl : factor = 4096 := by omega
    omega
  · have hm := hwarm h
    have := Nat.mul_le_mul_left raw (show factor ≤ 4096 by omega)
    omega
  · have hm := hcold h
    have := Nat.mul_le_mul_left raw (show 4096 ≤ factor by omega)
    omega
  · obtain rfl : factor = 2048 := by omega
    rfl
  · obtain rfl : factor = 6144 := by omega
    rfl
  · have := Nat.mul_le_mul h (show factor ≤ 6144 by omega)
    omega

end Sys2Proof.Machine
end

-- ==== Proofs: probe frames and the requests of chapter 3 ====
section
/-! R34, R35, R38, R41, R45, R51, R53: the frame events of the sensor links, a reading case by case, PROBE-ENABLE and CHECK. -/

namespace Sys2Proof.Machine

section
variable {s : State} {c : ChamberNo} {i : Fin 16} {x : SampleSlot} {code : Nat}

/-! ### Frame events -/

theorem linkRx_windowOver {rx : LinkRx} {e : Nat} (h : rx = .frame e) : rx.windowOver = true ↔ 4 ≤ e := by
  subst h
  exact decide_eq_true_iff

/-- Settles O7: each event is taken while main power is on, and tests its link's receive state. -/
theorem linkFrameEvents : Obligations.LinkFrameEvents := by
  intro s hm
  have hon : ∀ o, whilePowered s o = o := fun o => if_pos hm
  refine ⟨fun h => ?_, fun h => ?_, fun e h he => ?_, fun e h he => ?_, fun h => ?_, fun h => ?_, fun e h he => ?_,
    fun e h he => ?_⟩
  · exact (hon _).trans (congrArg _ (if_pos (beq_iff_eq.2 h)))
  · exact (hon _).trans (congrArg _ (if_neg (mt beq_iff_eq.1 h)))
  · exact (hon _).trans (congrArg _ (if_pos ((linkRx_windowOver h).2 he)))
  · exact (hon _).trans (congrArg _ (if_neg (mt (linkRx_windowOver h).1 (Nat.not_le.2 he))))
  · exact (hon _).trans (congrArg _ (if_pos (beq_iff_eq.2 h)))
  · exact (hon _).trans (congrArg _ (if_neg (mt beq_iff_eq.1 h)))
  · exact (hon _).trans (congrArg _ (if_pos ((linkRx_windowOver h).2 he)))
  · exact (hon _).trans (congrArg _ (if_neg (mt (linkRx_windowOver h).1 (Nat.not_le.2 he))))

/-- R175: the upper four bits of a code's first byte are ignored. -/
theorem probeCode_eq (hi lo : Byte) : probeCode hi lo = hi.toNat % 16 * 256 + lo.toNat := by
  rw [probeCode, nat16, BitVec.toNat_and]
  exact congrArg (· * 256 + lo.toNat) (Nat.and_two_pow_sub_one_eq_mod hi.toNat 4)

/-- R34: a whole frame in FRAME inside its window is discarded on a bad check, and is otherwise a reading. -/
theorem exec_probeFrame_taken {cn ch hi lo ck : Byte} {e : Nat} (hm : s.power.main = true) (hrx : s.probeRx = .frame e)
    (he : e < 4) : exec (.probeFrame cn ch hi lo ck) s =
      if cn + ch + hi + lo + ck = 0#8 then
        orBroken (takeReading cn.toNat ch.toNat (hi.toNat % 16 * 256 + lo.toNat) { s with probeRx := .hunt })
      else .next { s with probeRx := .hunt } := by
  have htakes : s.linkTakes s.probeRx = true := by
    unfold State.linkTakes
    rw [hm, hrx]
    exact decide_eq_true he
  have hsum : sumsToZero [cn, ch, hi, lo, ck] = true ↔ cn + ch + hi + lo + ck = 0#8 := by
    simp [sumsToZero]
  rw [← probeCode_eq]
  exact (if_pos htakes).trans (if_congr hsum rfl rfl)

/-! ### Readings -/

theorem takeReading_ignored {chamber channel : Nat} (h : 4 ≤ chamber ∨ 17 ≤ channel) :
    takeReading chamber channel code s = some s := by
  unfold takeReading
  split
  · rw [dif_neg (by omega), if_neg (by omega)]
  · rfl

theorem takeReading_sample : takeReading c.val i.val code s = sampleReading c i code s := by
  rw [takeReading, dif_pos c.isLt, dif_pos i.isLt]

theorem takeReading_dryBulb : takeReading c.val 16 code s = some (dryBulbReading c code s) := by
  rw [takeReading, dif_pos c.isLt, dif_neg (by decide), if_pos rfl]

theorem enabled_iff {t : SlotTrust} : t.enabled = true ↔ t ≠ .off := by
  cases t <;> simp [SlotTrust.enabled]

/-- R35, R40: in an EMPTY chamber, and in a slot that is OFF, a reading is stored and no more. -/
theorem sampleReading_stored (hx : x = ((s.bank c).samples[i]).stored code s.stamp)
    (h : (s.chamber c).state = .empty ∨ x.trust = .off) :
    sampleReading c i code s = some (s.setBank c ((s.bank c).setSample i x)) := by
  subst hx
  refine if_pos ?_
  obtain h | h := h
  · rw [h]; rfl
  · rw [h]; simp [SlotTrust.enabled]

/-- R41: a fault code. -/
theorem sampleReading_fault {cause : FaultCause} (hx : x = ((s.bank c).samples[i]).stored code s.stamp)
    (he : (s.chamber c).state ≠ .empty) (hon : x.trust ≠ .off) (hf : faultCauseOf code = some cause) :
    sampleReading c i code s = some (if x.trust.isFault then s.setBank c ((s.bank c).setSample i (x.faulted cause))
      else (s.setBank c ((s.bank c).setSample i (x.faulted cause))).probeFaulted c i.val (some cause)) := by
  subst hx
  unfold sampleReading
  dsimp only
  rw [if_neg (by rw [enabled_iff.2 hon]; simp [he]), hf]

/-- R42 to R45: a converted code. -/
theorem sampleReading_converted {sp : Species} (hx : x = ((s.bank c).samples[i]).stored code s.stamp)
    (he : (s.chamber c).state ≠ .empty) (hon : x.trust ≠ .off) (hf : faultCauseOf code = none)
    (hsp : s.speciesAt c = some sp) :
    sampleReading c i code s = some (s.setBank c ((s.bank c).setSample i
      (x.converted sp (s.bank c).dryBulb.temperature (s.chamber c).settings.jump code))) := by
  subst hx
  unfold sampleReading
  dsimp only
  rw [if_neg (by rw [enabled_iff.2 hon]; simp [he]), hf, hsp]
  rfl

theorem speciesAt_eq {k : Fin 8} {ch : Charge} (hk : (s.chamber c).chargeSlot = some k) (hch : s.charge k = some ch) :
    s.speciesAt c = s.species[ch.species] := by
  rw [State.speciesAt, bound_eq_some.2 ⟨hk, hch⟩]

theorem faultCauseOf_eq_some {cause : FaultCause} (h : (code < 300 ∧ cause = .short) ∨ (1400 < code ∧ cause = .opened)) :
    faultCauseOf code = some cause := by
  obtain ⟨h, rfl⟩ | ⟨h, rfl⟩ := h
  · exact if_pos h
  · rw [faultCauseOf, if_neg (by omega), if_pos h]

theorem faultCauseOf_eq_none (hlo : 300 ≤ code) (hhi : code ≤ 1400) : faultCauseOf code = none := by
  rw [faultCauseOf, if_neg (by omega), if_neg (by omega)]

theorem mcDistance_eq (a b : Nat) : mcDistance a b = ((a : Int) - b).natAbs := by
  unfold mcDistance
  omega

/-- R44: the candidate, a whole number within 0..600. -/
theorem candidateMc_eq {candidate corrected : Nat} {offset : Int}
    (h : (candidate : Int) = max 0 (min 600 ((corrected : Int) + offset))) : candidateMc corrected offset = candidate := by
  rw [candidateMc, clampInt, ← h, Int.toNat_natCast]

/-! ### The dry bulb -/

theorem dryBulbReading_empty {d : DryBulb} (hd : d = (s.bank c).dryBulb.stored code s.stamp)
    (h : (s.chamber c).state = .empty) : dryBulbReading c code s = s.setBank c { s.bank c with dryBulb := d } := by
  subst hd
  exact if_pos (beq_iff_eq.2 h)

theorem dryBulbReading_good {d : DryBulb} (hd : d = (s.bank c).dryBulb.stored code s.stamp)
    (h : (s.chamber c).state ≠ .empty) (hcode : code ≤ 1500) :
    dryBulbReading c code s = s.setBank c { s.bank c with dryBulb := { d with trust := .good code } } := by
  subst hd
  unfold dryBulbReading
  dsimp only
  rw [if_neg (mt beq_iff_eq.1 h), if_neg (Nat.not_lt.2 hcode)]

theorem dryBulbReading_fault {d : DryBulb} (hd : d = (s.bank c).dryBulb.stored code s.stamp)
    (h : (s.chamber c).state ≠ .empty) (hcode : 1500 < code) :
    dryBulbReading c code s =
      if d.trust.isFault then s.setBank c { s.bank c with dryBulb := { d with trust := .fault d.temperature } }
      else (s.setBank c { s.bank c with dryBulb := { d with trust := .fault d.temperature } }).probeFaulted c 16 none := by
  subst hd
  unfold dryBulbReading
  dsimp only
  rw [if_neg (mt beq_iff_eq.1 h), if_pos hcode]

end

/-- Settles O17: the frame's tests, then the reading by chamber state, slot and code. -/
theorem readingsTaken : Obligations.ReadingsTaken := by
  rintro cn ch hi lo ck e code s t hm hrx he rfl ht run
  have hrun : run = _ := exec_probeFrame_taken hm hrx he
  clear_value run
  have hbank : ∀ c, t.bank c = s.bank c := fun c => by rw [ht]; rfl
  have hchamber : ∀ c, t.chamber c = s.chamber c := fun c => by rw [ht]; rfl
  have hstamp : t.stamp = s.stamp := by rw [ht]; rfl
  have hcharge : ∀ k, t.charge k = s.charge k := fun k => by rw [ht]; rfl
  have hspecies : t.species = s.species := by rw [ht]
  rw [← ht] at hrun
  generalize hi.toNat % 16 * 256 + lo.toNat = code at hrun
  refine ⟨fun hck => hrun.trans (if_neg hck), fun hck => ?_⟩
  rw [if_pos hck] at hrun
  refine ⟨fun h => by rw [hrun, takeReading_ignored h]; rfl, fun c hc => ?_⟩
  simp only [← hbank, ← hchamber, ← hstamp, ← hcharge, ← hspecies]
  refine ⟨fun i x hch hx => ?_, fun d hch hd => ?_⟩
  · rw [hc, hch, takeReading_sample] at hrun
    refine ⟨fun h => by rw [hrun, sampleReading_stored hx h]; rfl, fun hne hon => ⟨fun cause hf u hu => ?_, ?_⟩⟩
    · have hfaulted : t.setBank c ((t.bank c).setSample i (x.faulted cause)) = u := hu.symm
      rw [hrun, sampleReading_fault hx hne hon (faultCauseOf_eq_some hf), hfaulted]
      cases x.trust <;> rfl
    · intro k bound sp candidate limits hlo hhi hk hbound hsp hlimits hcandidate
      rw [hrun, sampleReading_converted hx hne hon (faultCauseOf_eq_none hlo hhi) ((speciesAt_eq hk hbound).trans hsp)]
      refine congrArg (fun y => Host.Outcome.next (t.setBank c ((t.bank c).setSample i y))) ?_
      rw [hlimits] at hcandidate
      unfold SampleSlot.converted
      dsimp only
      rw [hlimits, candidateMc_eq hcandidate]
      cases x.trust <;> simp only [SlotTrust.accept, mcDistance_eq]
  · rw [hc, hch, takeReading_dryBulb] at hrun
    refine ⟨fun h => by rw [hrun, dryBulbReading_empty hd h]; rfl,
      fun hne hcode => by rw [hrun, dryBulbReading_good hd hne hcode]; rfl, fun hne hcode u hu => ?_⟩
    have hfaulted : t.setBank c { t.bank c with dryBulb := { d with trust := .fault d.temperature } } = u := hu.symm
    rw [hrun, dryBulbReading_fault hd hne hcode, hfaulted]
    cases d.trust <;> rfl

/-! ### PROBE-ENABLE and CHECK -/

theorem enable_eq (x : SampleSlot) (on : Bool) : x.enable on =
    if on = x.trust.enabled then x
    else { x with trust := if on then .new else .off, flags := ⟨false, false, false⟩ } :=
  if_congr beq_iff_eq rfl rfl

theorem inRun_iff {st : ChamberState} : st.inRun = true ↔ st ∈ [ChamberState.running, .held, .doorHold] := by
  cases st <;> decide

section
variable {s : State} {c : ChamberNo} {i : Fin 16} {b sl hi lo : Byte} {rest : List Byte}

theorem probeEnableOwner_eq : probeEnableOwner (b :: hi :: lo :: rest) s =
    withChamber b (fun c s => took (s.setBank c ((s.bank c).enable (hi ++ lo))) [hi, lo]) s := rfl

/-- R53: the numbers a CHECK carries are tested before anything else. -/
theorem checkOwner_outOfRange (h : 4 ≤ b.toNat ∨ 16 ≤ sl.toNat ∨ 600 < nat16 hi lo) :
    checkOwner (b :: sl :: hi :: lo :: rest) s = refuse .outOfRange s := by
  unfold checkOwner
  dsimp only
  split
  · rename_i c i hb hsl
    rw [finOf_eq_some] at hb hsl
    exact if_pos (by omega)
  · rfl

theorem checkOwner_wrongState (hb : b.toNat = c.val) (hsl : sl.toNat = i.val) (hmc : nat16 hi lo ≤ 600)
    (h : (s.chamber c).state.inRun = false ∨ ∀ a, (s.bank c).samples[i].trust ≠ .good a) :
    checkOwner (b :: sl :: hi :: lo :: rest) s = refuse .wrongState s := by
  simp only [checkOwner, finOf_eq_some.2 hb, finOf_eq_some.2 hsl, if_neg (Nat.not_lt.2 hmc)]
  split
  · rfl
  · rename_i hrun
    split
    · rename_i a ha
      obtain h | h := h
      · simp [h] at hrun
      · exact absurd ha (h a)
    all_goals rfl

theorem checkOwner_good {a : Nat} (hb : b.toNat = c.val) (hsl : sl.toNat = i.val) (hmc : nat16 hi lo ≤ 600)
    (hrun : (s.chamber c).state.inRun = true) (ha : (s.bank c).samples[i].trust = .good a) :
    checkOwner (b :: sl :: hi :: lo :: rest) s = checkSlot c i (nat16 hi lo) a s := by
  simp only [checkOwner, finOf_eq_some.2 hb, finOf_eq_some.2 hsl, if_neg (Nat.not_lt.2 hmc), hrun, ha]
  rfl

end

/-- Settles O22: each owner's answer case by case, passed through the Kiln port. -/
theorem probeRequests : Obligations.ProbeRequests := by
  intro tag b rest s ht
  refine ⟨fun hi lo => ⟨fun hb => ?_, fun c hb => ?_⟩, fun sl hi lo => ⟨fun h => ?_, fun c i hb hsl hmc => ⟨fun h => ?_, ?_⟩⟩⟩
  · exact request_refused ht rfl (probeEnableOwner_eq.trans (withChamber_outside hb))
  · refine (request_taken ht rfl (probeEnableOwner_eq.trans (withChamber_inside hb))).trans ?_
    simp only [ProbeBank.enable, enable_eq]
    rfl
  · exact request_refused ht rfl (checkOwner_outOfRange h)
  · refine request_refused ht rfl (checkOwner_wrongState hb hsl hmc (h.imp (fun hst => ?_) id))
    exact Bool.eq_false_iff.2 (mt inRun_iff.1 hst)
  · rintro a x sum o hst rfl ha rfl rfl
    refine ⟨(clampInt 0 600 ((a : Int) - (s.bank c).samples[i].offset + clampInt (-50) 50
      ((s.bank c).samples[i].offset + ((nat16 hi lo : Int) - a)))).toNat, ?_, fun ho => ?_, ?_⟩
    · rw [Int.toNat_of_nonneg (clampInt_range (by decide) _).1]
      rfl
    · unfold clampInt
      omega
    · exact request_taken ht rfl (checkOwner_good hb hsl hmc (inRun_iff.2 hst) ha)

end Sys2Proof.Machine
end

-- ==== Proofs: what happens when no command waits ====
section
/-! R36, R121, R127, R164, R167; log entry 2: the draw end and the tally move that are due, and one sixty-fourth of a second with what
comes due at its end. -/

namespace Sys2Proof.Machine

section
variable {s : State}

/-! ### What is due at once -/

theorem drawEndDue_iff : s.drawEndDue = true ↔ ∃ d, s.draw = some d ∧ d.ending = true ∧ ∀ b ∈ s.fifo, b.slot ≠ d.slot := by
  unfold State.drawEndDue
  cases s.draw <;> simp

theorem freePack_isSome_iff : s.freePack.isSome = true ↔ ∃ k, s.pack k = none := by
  simp [State.freePack, List.find?_isSome, mem_allPackSlots]

theorem moveDue_iff : s.moveDue = true ↔
    s.fifo ≠ [] ∧ ((∃ k p, s.pack k = some p ∧ p.state = .opened) ∨ ∃ k, s.pack k = none) := by
  rw [← openPack_isSome_iff, ← freePack_isSome_iff]
  simp [State.moveDue]

/-- With no command waiting a step is what the part does by itself. -/
theorem step_of_idle (h : s.pending = []) : step s = .next s.idle := by
  unfold step
  rw [h]

theorem idle_drawEnd (hm : s.power.main = true) (h : s.drawEndDue = true) : s.idle = { s with pending := [.drawEnd] } := by
  simp [State.idle, State.dueNow, hm, h]

theorem idle_tallyMove (hm : s.power.main = true) (hd : ¬s.drawEndDue = true) (h : s.moveDue = true) :
    s.idle = { s with pending := [.tallyMove] } := by
  simp [State.idle, State.dueNow, hm, hd, h]

theorem idle_unpowered (hm : s.power.main = false) :
    s.idle = { s.tickBackup with pending := if s.clock.atEnd then [Instr.millTimeWrap] else [] } := by
  simp [State.idle, State.dueNow, State.tick, hm]

theorem idle_powered (hm : s.power.main = true) (hd : ¬s.drawEndDue = true) (h : ¬s.moveDue = true) :
    s.idle = { s.tickBackup.tickMain with
      pending := (if s.clock.atEnd then [Instr.millTimeWrap] else []) ++ s.tickBackup.tickMain.expiries } := by
  simp [State.idle, State.dueNow, State.tick, hm, hd, h]

/-! ### One sixty-fourth of a second -/

theorem atEnd_iff {k : MillClock} : k.atEnd = true ↔ 4294967295 ≤ k.seconds ∧ 63 ≤ k.sixtyFourths := by
  simp [MillClock.atEnd]

theorem millClock_tick_eq (k : MillClock) : k.tick =
    if 4294967295 ≤ k.seconds ∧ 63 ≤ k.sixtyFourths then k
    else if k.sixtyFourths < 63 then ⟨k.seconds, k.sixtyFourths + 1, k.lost⟩ else ⟨k.seconds + 1, 0, k.lost⟩ :=
  if_congr atEnd_iff rfl rfl

/-! ### What has come due -/

theorem filter_ports (f : Port → Bool) (g : Port → Instr) : ([Port.kiln, .line, .yard].filter f).map g =
    (if f .kiln then [g .kiln] else []) ++ (if f .line then [g .line] else []) ++ if f .yard then [g .yard] else [] := by
  simp only [List.filter_cons, List.filter_nil]
  split <;> split <;> split <;> rfl

theorem counts_iff {st : ChamberState} : st.counts = true ↔ st ∈ [ChamberState.running, .held, .doorHold, .cooling] := by
  cases st <;> decide

theorem limitPassed_iff {c : ChamberNo} : s.limitPassed c = true ↔ ∃ h, (s.monitor c).hold = some h ∧
    (s.chamber c).state = .doorHold ∧ (s.chamber c).settings.doorLimit * 3840 < h.openTime ∧ h.limitNotice = false := by
  have hlimit : ∀ h : DoorHold, (s.chamber c).settings.limitTicks < h.openTime ↔
      (s.chamber c).settings.doorLimit * 3840 < h.openTime := fun _ => Iff.rfl
  unfold State.limitPassed
  cases (s.monitor c).hold <;> simp [hlimit, and_assoc]

theorem debounceOver_iff {d : DoorMonitor} : d.debounceOver = true ↔ ∃ b, d.debounce = some b ∧
    b.period ≤ b.elapsed ∧ d.input ≠ d.door := by
  unfold DoorMonitor.debounceOver
  cases d.debounce <;> simp

theorem instantDue_iff {x : Chamber} : x.instantDue = true ↔ ∃ d, x.countdown = some d ∧
    d.seconds = 0 ∧ x.state ∈ [ChamberState.running, .held, .doorHold, .cooling] := by
  unfold Chamber.instantDue
  cases x.countdown <;> simp [counts_iff]

end

/-- Settles O2: what is due at once by its test, and the passing of time field by field. -/
theorem idleStep : Obligations.IdleStep := by
  rintro s wrap clock age probes endDue moveDue hpending hend hmove rfl rfl hage hprobes
  rw [← drawEndDue_iff] at hend
  rw [← moveDue_iff] at hmove
  rw [step_of_idle hpending, hend, hmove]
  have hwrap := if_congr (atEnd_iff (k := s.clock)) (rfl : [Instr.millTimeWrap] = _) (rfl : ([] : List Instr) = _)
  have hbanks : probes = s.probes.map ProbeBank.tick := by
    obtain rfl : age = Age.tick := funext hage
    exact hprobes
  refine ⟨fun hm hd => by rw [idle_drawEnd hm hd], fun hm hd h => by rw [idle_tallyMove hm hd h], fun hm => ?_, ?_⟩
  · rw [idle_unpowered hm, hwrap, ← millClock_tick_eq, hbanks]
    rfl
  · intro port link u hport hlink hu hm hd h
    have hu' : u = s.tickBackup.tickMain := by
      obtain rfl : port = PortState.tick := funext fun x => by
        rw [hport, PortState.tick]
        cases x.rx <;> rfl
      obtain rfl : link = LinkRx.tick := funext fun x => by
        rw [hlink]
        cases x <;> rfl
      rw [hu, ← millClock_tick_eq, hbanks]
      unfold State.tickMain State.tickBackup
      rfl
    rw [idle_powered hm hd h, hwrap, hu']
    refine congrArg (fun q => Host.Outcome.next { s.tickBackup.tickMain with pending := q }) ?_
    generalize s.tickBackup.tickMain = v
    unfold State.expiries
    simp only [← List.append_assoc]
    refine congrArg₂ _ (congrArg₂ _ (congrArg₂ _ (congrArg₂ _ (congrArg₂ _ (congrArg₂ _ ?_ ?_) ?_) ?_) ?_) ?_) ?_
    · rw [filter_ports, ← List.append_assoc, ← List.append_assoc]
      rfl
    · cases v.probeRx <;> simp [LinkRx.windowOver]
    · cases v.boardRx <;> simp [LinkRx.windowOver]
    · refine congrArg _ (List.filter_congr fun c _ => Bool.eq_iff_iff.2 ?_)
      rw [limitPassed_iff]
      cases (v.monitor c).hold <;> simp
    · refine congrArg _ (List.filter_congr fun c _ => Bool.eq_iff_iff.2 ?_)
      rw [debounceOver_iff]
      cases (v.monitor c).debounce <;> simp
    · refine congrArg _ (List.filter_congr fun c _ => Bool.eq_iff_iff.2 ?_)
      rw [instantDue_iff]
      cases (v.chamber c).countdown <;> simp
    · cases v.silence <;> rfl

end Sys2Proof.Machine
end

-- ==== Proofs: event rings and the bounded stores ====
section
/-! R70, R97, R99, R112, R130: what can happen to an event ring, and the changes of a state that keep its rings, queues and FIFO
within their sizes and a stuck tally blocked. -/

namespace Sys2Proof.Machine

/-! ### One event ring -/

/-- What can happen to an event ring: an event is offered to it (R97), it is emptied with its counter kept (R99), or it is cleared
(R170). -/
inductive EventRing.Change : EventRing → EventRing → Prop
  | offered {r : EventRing} {st : Settings} {ev : Event} {mk : Nat → RingEntry} (h : ∀ n, (mk n).seq = n) :
      Change r (r.after st ev mk)
  | emptied {r : EventRing} : Change r r.emptied
  | cleared {r : EventRing} : Change r ⟨[], 0, false⟩

/-- Changes of one ring, one after another. -/
abbrev EventRing.Changes : EventRing → EventRing → Prop := Relation.ReflTransGen EventRing.Change

/-- What the ring keeps of its entries when one more joins: all of them, or all but the oldest when it held eight (R97). -/
def EventRing.kept (r : EventRing) : List RingEntry := if r.entries.length < 8 then r.entries else r.entries.tail

/-- What becomes of a ring at an offered event (R97). -/
theorem EventRing.after_cases (st : Settings) (ev : Event) (mk : Nat → RingEntry) (r : EventRing) :
    r.after st ev mk = r ∨ r.after st ev mk = { r with overflow := true } ∨
      r.after st ev mk =
        { r with entries := r.kept ++ [mk ((r.counter + 1) % 65536)], counter := (r.counter + 1) % 65536 } := by
  have hentry : ∀ seq, r.verdict st ev = .entry seq → seq = (r.counter + 1) % 65536 := by
    intro seq h
    unfold EventRing.verdict at h
    split at h
    · cases h
    · split at h
      · exact (Recorded.entry.inj h).symm
      · split at h <;> cases h
        rfl
  unfold EventRing.after
  split
  · exact .inl rfl
  · exact .inr (.inl rfl)
  · rename_i seq hv
    obtain rfl := hentry seq hv
    exact .inr (.inr rfl)

theorem EventRing.length_kept_lt {r : EventRing} (h : r.entries.length ≤ 8) : r.kept.length < 8 := by
  unfold EventRing.kept
  split
  · assumption
  · rw [List.length_tail]
    omega

/-- R99: a ring of at most eight entries goes on holding at most eight. -/
theorem EventRing.Change.length_le {r r' : EventRing} (h : r.Change r') (hr : r.entries.length ≤ 8) :
    r'.entries.length ≤ 8 := by
  cases h with
  | @offered st ev mk _ =>
    obtain h | h | h := r.after_cases st ev mk <;> rw [h]
    · exact hr
    · exact hr
    · simpa using length_kept_lt hr
  | emptied | cleared => exact Nat.zero_le 8

theorem consecutive_tail {l : List Nat} (h : consecutive l = true) : consecutive l.tail = true := by
  cases l with
  | nil => exact h
  | cons a l =>
    cases l with
    | nil => rfl
    | cons b l =>
      rw [consecutive, Bool.and_eq_true] at h
      exact h.2

/-- The number after the last joins consecutive numbers. -/
theorem consecutive_append {l : List Nat} {n : Nat} (h : consecutive l = true)
    (hn : ∀ a ∈ l.getLast?, n = (a + 1) % 65536) : consecutive (l ++ [n]) = true := by
  induction l with
  | nil => rfl
  | cons a l ih =>
    cases l with
    | nil => simp [consecutive, hn a rfl]
    | cons b l =>
      rw [consecutive, Bool.and_eq_true] at h
      rw [List.cons_append, List.cons_append, consecutive, Bool.and_eq_true]
      exact ⟨h.1, ih h.2 fun x hx => hn x (by rwa [List.getLast?_cons_cons])⟩

/-- R97, for one ring: the entries are consecutive up to the counter. -/
def EventRing.InOrder (r : EventRing) : Prop :=
  consecutive (r.entries.map (·.seq)) = true ∧ r.counter ≤ 65535 ∧ ∀ e ∈ r.entries.getLast?, e.seq = r.counter

/-- What a full ring keeps is in order as the ring was. -/
theorem EventRing.InOrder.of_kept {r : EventRing} (h : r.InOrder) : { r with entries := r.kept }.InOrder := by
  obtain ⟨hcons, hcounter, hlast⟩ := h
  unfold EventRing.kept
  split
  · exact ⟨hcons, hcounter, hlast⟩
  · refine ⟨?_, hcounter, fun e he => hlast e ?_⟩
    · rw [List.map_tail]
      exact consecutive_tail hcons
    · rw [List.getLast?_tail] at he
      split at he
      · cases he
      · exact he

theorem EventRing.Change.inOrder {r r' : EventRing} (h : r.Change r') (hr : r.InOrder) : r'.InOrder := by
  cases h with
  | @offered st ev mk hmk =>
    obtain h | h | h := r.after_cases st ev mk <;> rw [h]
    · exact hr
    · exact hr
    · obtain ⟨hcons, -, hlast⟩ := hr.of_kept
      refine ⟨?_, by dsimp only; omega, by simp [hmk]⟩
      rw [List.map_append, List.map_singleton, hmk]
      refine consecutive_append hcons fun a ha => ?_
      rw [List.getLast?_map, Option.mem_map] at ha
      obtain ⟨e, he, rfl⟩ := ha
      rw [hlast e he]
  | emptied => exact ⟨rfl, hr.2.1, by simp [EventRing.emptied]⟩
  | cleared => exact ⟨rfl, Nat.zero_le _, by simp⟩

/-- A property that every change of a ring keeps is kept by changes one after another. -/
theorem EventRing.Changes.keeps {P : EventRing → Prop} (hP : ∀ r r', r.Change r' → P r → P r') {r r' : EventRing}
    (h : r.Changes r') (hr : P r) : P r' := by
  induction h with
  | refl => exact hr
  | tail _ h ih => exact hP _ _ h ih

/-! ### The stores of a state -/

/-- The tally is stuck (R130). -/
theorem tallyStuck_iff {s : State} : s.tallyStuck = true ↔
    s.fifo ≠ [] ∧ (∀ k p, s.pack k = some p → p.state ≠ .opened) ∧ ∀ k, s.pack k ≠ none := by
  have ho := openPack_isSome_iff (s := s)
  have hf := freePack_isSome_iff (s := s)
  rw [← not_iff_not] at ho hf
  simp only [Bool.not_eq_true, Option.isSome_eq_false_iff] at ho hf
  simp only [State.tallyStuck, Bool.and_eq_true, Bool.not_eq_true', List.isEmpty_eq_false_iff, ho, hf, and_assoc]
  push Not
  rfl

/-- The stores beside the chambers' queues: the rings, and what says whether the tally is stuck and blocked. -/
def State.stores (s : State) : Vector EventRing 4 × List BoardRecord × Vector (Option Pack) 16 × Bool :=
  (s.rings, s.fifo, s.packs, s.blocked)

theorem stores_eq_iff {s t : State} :
    t.stores = s.stores ↔ t.rings = s.rings ∧ t.fifo = s.fifo ∧ t.packs = s.packs ∧ t.blocked = s.blocked := by
  simp [State.stores]

theorem blockKept_of_same {s t : State} (hf : t.fifo = s.fifo) (hp : t.packs = s.packs) (hb : t.blocked = s.blocked)
    (h : s.BlockKept) : t.BlockKept := by
  have hpack : ∀ k, t.pack k = s.pack k := fun k => by rw [State.pack, hp, State.pack]
  intro hstuck
  rw [hb]
  refine h (tallyStuck_iff.2 ?_)
  simpa only [hf, hpack] using tallyStuck_iff.1 hstuck

theorem blockKept_of_free {s : State} {k : Fin 16} (h : s.pack k = none) : s.BlockKept :=
  fun hstuck => absurd h ((tallyStuck_iff.1 hstuck).2.2 k)

theorem blockKept_of_nil {s : State} (h : s.fifo = []) : s.BlockKept :=
  fun hstuck => absurd h (tallyStuck_iff.1 hstuck).1

/-- R130: after its check a stuck tally is blocked. -/
theorem checkBlocked_blockKept (s : State) : s.checkBlocked.BlockKept := by
  unfold State.checkBlocked
  split
  · exact fun _ => rfl
  · rename_i h
    intro hstuck
    simpa [hstuck] using h

/-- A change that keeps every store within its size: the rings change as rings do, no queue and not the FIFO outgrows its bound. -/
structure State.Bounded (s t : State) : Prop where
  rings : ∀ c, (s.eventRing c).Changes (t.eventRing c)
  queues : ∀ c, (s.chamber c).queue.length ≤ 4 → (t.chamber c).queue.length ≤ 4
  fifo : s.fifo.length ≤ 32 → t.fifo.length ≤ 32

/-- A change that keeps every store within its size and a stuck tally blocked. -/
structure State.Stored (s t : State) : Prop extends s.Bounded t where
  block : s.BlockKept → t.BlockKept

theorem State.Bounded.trans {s t u : State} (h : s.Bounded t) (g : t.Bounded u) : s.Bounded u where
  rings c := (h.rings c).trans (g.rings c)
  queues c hc := g.queues c (h.queues c hc)
  fifo hf := g.fifo (h.fifo hf)

section
variable {s t : State} {c : ChamberNo}

/-- A change that shows in no store but the FIFO, which keeps within its size. -/
theorem bounded_of_fifo (hc : t.chambers = s.chambers) (hr : t.rings = s.rings)
    (hf : s.fifo.length ≤ 32 → t.fifo.length ≤ 32) : s.Bounded t where
  rings c := by rw [State.eventRing, State.eventRing, hr]
  queues c h := by rwa [State.chamber, hc]
  fifo := hf

/-- A change that shows in no store. -/
theorem stored_of_same (hc : t.chambers = s.chambers) (hst : t.stores = s.stores) : s.Stored t := by
  obtain ⟨hr, hf, hp, hb⟩ := stores_eq_iff.1 hst
  exact { bounded_of_fifo hc hr (fun h => by rwa [hf]) with block := blockKept_of_same hf hp hb }

theorem State.Stored.refl (s : State) : s.Stored s := stored_of_same rfl rfl

theorem State.Stored.trans {u : State} (h : s.Stored t) (g : t.Stored u) : s.Stored u :=
  { h.toBounded.trans g.toBounded with block := fun hb => g.block (h.block hb) }

/-- An operation that ends in the check of R130. -/
theorem State.Bounded.checked (h : s.Bounded t) : s.Stored t.checkBlocked := by
  refine { h.trans ?_ with block := fun _ => checkBlocked_blockKept t }
  obtain h | ⟨-, -, h⟩ := checkBlocked_cases t <;> rw [h] <;> exact bounded_of_fifo rfl rfl id

theorem stored_ite {p : Prop} [Decidable p] (h : s.Stored t) : s.Stored (if p then t else s) := ite_keeps h (.refl s)

theorem stored_offer (s : State) (c : ChamberNo) (ev : Event) : s.Stored (s.offer c ev) where
  rings d := by
    rw [eventRing_offer]
    split
    · rename_i h
      subst h
      exact .single (.offered fun _ => rfl)
    · exact .refl
  queues _ h := h
  fifo h := h
  block := blockKept_of_same rfl rfl rfl

theorem State.Stored.offered (h : s.Stored t) (c : ChamberNo) (ev : Event) : s.Stored (t.offer c ev) :=
  h.trans (stored_offer t c ev)

theorem eventRing_setRing (s : State) (c d : ChamberNo) (r : EventRing) :
    (s.setRing c r).eventRing d = if c = d then r else s.eventRing d := by
  split
  · rename_i h; subst h; simp
  · rename_i h; exact State.eventRing_setRing_other s r h

/-- One chamber's record replaced, and what is no store changed. -/
theorem stored_chamber {x : Chamber} (hx : t.chambers = s.chambers.set c x)
    (hst : t.stores = s.stores) (hq : (s.chamber c).queue.length ≤ 4 → x.queue.length ≤ 4) : s.Stored t where
  rings d := by rw [State.eventRing, State.eventRing, (stores_eq_iff.1 hst).1]
  queues d hd := by
    have ht : t.chamber d = (s.setChamber c x).chamber d := by rw [State.chamber, hx]; rfl
    rw [ht, chamber_setChamber]
    split
    · rename_i h
      subst h
      exact hq hd
    · exact hd
  fifo h := by rwa [(stores_eq_iff.1 hst).2.1]
  block := by
    obtain ⟨-, hf, hp, hb⟩ := stores_eq_iff.1 hst
    exact blockKept_of_same hf hp hb

/-- Every chamber changed alike. -/
theorem stored_chambers {f : Chamber → Chamber} (hx : t.chambers = s.chambers.map f)
    (hst : t.stores = s.stores) (hq : ∀ x, x.queue.length ≤ 4 → (f x).queue.length ≤ 4) : s.Stored t where
  rings d := by rw [State.eventRing, State.eventRing, (stores_eq_iff.1 hst).1]
  queues d hd := by
    have ht : t.chamber d = f (s.chamber d) := by simp [State.chamber, hx]
    rw [ht]
    exact hq _ hd
  fifo h := by rwa [(stores_eq_iff.1 hst).2.1]
  block := by
    obtain ⟨-, hf, hp, hb⟩ := stores_eq_iff.1 hst
    exact blockKept_of_same hf hp hb

end

end Sys2Proof.Machine
end

-- ==== Proofs: what each operation does to the bounded stores ====
section
/-! R70, R97, R99, R112, R130: the operations of chapters 3 to 7 and 10. Each keeps every store within its size, and each that can
leave the tally stuck ends in the check of R130. -/

namespace Sys2Proof.Machine

section
variable {s t : State} {c : ChamberNo}

/-! ### Packs, draws and boards -/

theorem bounded_closePack {cause : CloseCause} {k : Fin 16} {p : Pack} (h : s.closePack cause k p = some t) : s.Bounded t := by
  obtain ⟨v, -, rfl⟩ := closePack_some h
  exact bounded_of_fifo rfl rfl id

theorem stored_endDraw {d : Draw} (h : s.endDraw d = some t) : s.Stored t := by
  obtain ⟨u, hu, rfl⟩ := Option.map_eq_some_iff.1 h
  have hclosed : s.Bounded u := by
    unfold State.closeOpen at hu
    split at hu
    · exact bounded_closePack hu
    · cases hu; exact bounded_of_fifo rfl rfl id
  refine State.Bounded.checked ?_
  exact hclosed.trans (bounded_of_fifo rfl rfl id)

theorem bounded_packForMove {b : BoardRecord} {k : Fin 16} {p : Pack} (h : s.packForMove b = some (t, k, p)) :
    s.Bounded t ∧ t.fifo = s.fifo := by
  unfold State.packForMove at h
  split at h
  · cases h; exact ⟨bounded_of_fifo rfl rfl id, rfl⟩
  · split at h <;> cases h
    exact ⟨bounded_of_fifo rfl rfl id, rfl⟩

theorem stored_moveBoard {b : BoardRecord} {rest : List BoardRecord} (hf : s.fifo = b :: rest)
    (h : s.moveBoard b rest = some t) : s.Stored t := by
  unfold State.moveBoard at h
  split at h
  · cases h
  · rename_i u k p hu
    obtain ⟨w, hw, rfl⟩ := Option.map_eq_some_iff.1 h
    obtain ⟨hsu, hfu⟩ := bounded_packForMove hu
    have hadd : u.Bounded { u.addBoard b rest k p with blocked := false } := 
      bounded_of_fifo rfl rfl fun h => by
        rw [hfu, hf, List.length_cons] at h
        exact (Nat.le_succ _).trans h
    refine ((hsu.trans hadd).trans ?_).checked
    split at hw
    · exact bounded_closePack hw
    · cases hw; exact bounded_of_fifo rfl rfl id

theorem stored_expireSilence {x : Silence} (h : s.expireSilence x = some t) : s.Stored t := by
  unfold State.expireSilence at h
  dsimp only at h
  split at h
  · cases h; exact stored_of_same rfl rfl
  · rename_i k p _
    have hidle : s.Bounded ({ s with silence := none }.raise .idle) := bounded_of_fifo rfl rfl id
    split at h
    · obtain ⟨w, hw, rfl⟩ := Option.map_eq_some_iff.1 h
      exact (hidle.trans (bounded_closePack hw)).checked
    · cases h; exact stored_of_same rfl rfl

/-- R110, R112: a board goes to a pack only while the FIFO holds fewer than 32 records. -/
theorem dispose_pack {ch : Charge} {plan : PackPlan} {held : Nat} {b : Board} (h : (dispose ch plan held b).1 = .pack) :
    held < 32 := by
  have hfull : ∀ {x : Disposition × DispositionCause},
      (if Config.fifoSize ≤ held then (Disposition.reject, DispositionCause.full) else x).1 = .pack → held < 32 := by
    intro x hx
    split at hx
    · cases hx
    · rename_i hlt
      exact Nat.lt_of_not_le hlt
  unfold dispose at h
  split at h
  · cases h
  · split at h
    · split at h
      · cases h
      · exact hfull h
    · exact hfull h

theorem bounded_countAndDispose (s : State) (d : Draw) (ch : Charge) (rem g : Nat) (b : Board) :
    s.Bounded (s.countAndDispose d ch rem g b).1 := by
  have hplaced : ∀ u : State, (dispose ch s.plan s.fifo.length b).1 = .pack → u.fifo = s.fifo →
      ∀ r, (u.placeBoard r).fifo.length ≤ 32 := by
    intro u hv hu r
    have := dispose_pack hv
    simp only [State.placeBoard, List.length_append, hu, List.length_singleton]
    omega
  unfold State.countAndDispose
  dsimp only
  refine State.Bounded.trans (t := if (dispose ch s.plan s.fifo.length b).1 = .pack then
    (s.modCharge d.slot _).placeBoard (b.record d.slot s.plan) else s.modCharge d.slot _) ?_
    (ite_keeps (bounded_of_fifo rfl rfl id) (bounded_of_fifo rfl rfl id))
  split
  · rename_i hv
    exact bounded_of_fifo rfl rfl fun _ => hplaced (s.modCharge d.slot _) hv rfl _
  · exact bounded_of_fifo rfl rfl id

theorem stored_grade {b : Board} (h : s.grade b = some t) : s.Stored t := by
  unfold State.grade at h
  split at h
  · cases h; exact stored_of_same rfl rfl
  · unfold State.gradeNew at h
    dsimp only at h
    have hseq : s.Stored (if (sequenceGap s.lastSeq b.sequence).2 = true then s.raise .seq else s) :=
      stored_ite (stored_of_same rfl rfl)
    generalize (if (sequenceGap s.lastSeq b.sequence).2 = true then s.raise .seq else s) = u at h hseq
    split at h
    · cases h; exact hseq.trans (stored_of_same rfl rfl)
    · split at h
      · cases h; exact hseq.trans (stored_of_same rfl rfl)
      · split at h
        · cases h
        · split at h <;> cases h
          refine State.Bounded.checked ?_
          exact (hseq.toBounded.trans (bounded_countAndDispose u _ _ _ _ b)).trans (bounded_of_fifo rfl rfl id)

/-! ### Readings -/

theorem stored_probeFaulted (s : State) (c : ChamberNo) (slot : Nat) (cause : Option FaultCause) :
    s.Stored (s.probeFaulted c slot cause) :=
  State.Stored.trans (t := s.raise .probe) (stored_of_same rfl rfl) (stored_offer _ c _)

theorem stored_setBank (s : State) (c : ChamberNo) (b : ProbeBank) : s.Stored (s.setBank c b) := stored_of_same rfl rfl

theorem stored_sampleReading {i : Fin 16} {code : Nat} (h : sampleReading c i code s = some t) : s.Stored t := by
  unfold sampleReading at h
  dsimp only at h
  split at h
  · cases h; exact stored_of_same rfl rfl
  · split at h
    · cases h
      split
      · exact stored_of_same rfl rfl
      · exact (stored_setBank s c _).trans (stored_probeFaulted _ c _ _)
    · obtain ⟨sp, -, rfl⟩ := Option.map_eq_some_iff.1 h
      exact stored_of_same rfl rfl

theorem stored_dryBulbReading (s : State) (c : ChamberNo) (code : Nat) : s.Stored (dryBulbReading c code s) := by
  unfold dryBulbReading
  dsimp only
  split
  · exact stored_of_same rfl rfl
  · split
    · split
      · exact stored_of_same rfl rfl
      · exact (stored_setBank s c _).trans (stored_probeFaulted _ c _ _)
    · exact stored_of_same rfl rfl

theorem stored_takeReading {chamber channel code : Nat} (h : takeReading chamber channel code s = some t) : s.Stored t := by
  unfold takeReading at h
  split at h
  · split at h
    · exact stored_sampleReading h
    · split at h <;> cases h
      · exact stored_dryBulbReading s _ code
      · exact .refl s
  · cases h; exact .refl s

/-! ### Runs -/

theorem stored_setQueue {queue : List RunCommand} (h : (s.chamber c).queue.length ≤ 4 → queue.length ≤ 4) :
    s.Stored (s.setChamber c { s.chamber c with queue := queue }) := stored_chamber rfl rfl h

theorem stored_intoCooling (s : State) (c : ChamberNo) (coolTemp : Nat) : s.Stored (s.intoCooling c coolTemp) :=
  stored_chamber rfl rfl fun _ => Nat.zero_le 4

theorem stored_complete (s : State) (c : ChamberNo) : s.Stored (s.complete c) := by
  refine State.Stored.offered ?_ c .complete
  exact stored_chamber rfl rfl id

theorem stored_coolingEvents (s : State) (c : ChamberNo) (cause : CoolingCause) (coolTime : Nat) :
    s.Stored (s.coolingEvents c cause coolTime) := by
  have hevents : s.Stored
      (if cause = .abort then s.offer c (.cooling cause) else (s.offer c (.cooling cause)).raise .step) :=
    ite_keeps (stored_offer s c _) ((stored_offer s c _).trans (stored_of_same rfl rfl))
  exact ite_keeps (hevents.trans (stored_complete _ c)) hevents

theorem stored_stepChange (s : State) (c : ChamberNo) (i : Nat) (st : Step) : s.Stored (s.stepChange c i st) :=
  stored_chamber rfl rfl id

theorem stored_blindHold (s : State) (c : ChamberNo) : s.Stored (s.blindHold c) := by
  refine State.Stored.offered ?_ c (.autoHold .lowProbes)
  exact stored_chamber rfl rfl id

theorem stored_countStage (s : State) (c : ChamberNo) : s.Stored (s.countStage c) := by
  have hcount : ∀ n, s.Stored (s.setChamber c { s.chamber c with invalidCount := n }) := fun _ => stored_chamber rfl rfl id
  exact ite_keeps ((hcount _).trans (stored_blindHold _ c)) (hcount _)

theorem stored_manualAdvance (s : State) (c : ChamberNo) (v : RunView) (cmd : RunCommand) (cause : CoolingCause)
    (next : Option (Nat × Step)) : s.Stored (s.manualAdvance c v cmd cause next) := by
  have hmark : s.Stored (s.modBound c (Charge.mark .manualStep)) := stored_of_same rfl rfl
  cases next with
  | some next => exact (hmark.trans (stored_stepChange _ c _ _)).offered c _
  | none =>
    exact ((hmark.trans (stored_intoCooling _ c _)).offered c _).trans (stored_coolingEvents _ c _ _)

theorem stored_carryOut (s : State) (c : ChamberNo) (v : RunView) (cmd : RunCommand) : s.Stored (s.carryOut c v cmd) := by
  have hstate : ∀ st, s.Stored (s.modChamber c fun x => { x with state := st }) := fun _ => stored_chamber rfl rfl id
  cases cmd with
  | hold | resume => exact ite_keeps ((hstate _).offered c _) (stored_offer s c _)
  | step | skipPhase => exact stored_manualAdvance s c v _ _ _

/-- R77: the command taken leaves the queue. -/
theorem stored_commandStage (s : State) (c : ChamberNo) (v : RunView) : s.Stored (s.commandStage c v) := by
  have htaken : ∀ cmd rest, (s.chamber c).queue = cmd :: rest →
      s.Stored (s.setChamber c { s.chamber c with queue := rest }) := by
    intro cmd rest hq
    refine stored_setQueue fun h => ?_
    rw [hq, List.length_cons] at h
    exact (Nat.le_succ _).trans h
  unfold State.commandStage
  dsimp only
  split
  · rename_i cmd rest _ hq
    exact (htaken cmd rest hq).trans (stored_carryOut _ c v cmd)
  · rename_i cmd rest _ hq
    exact (htaken cmd rest hq).trans (stored_carryOut _ c v cmd)
  · exact .refl s

theorem stored_runStage (s : State) (c : ChamberNo) (v : RunView) (loaded : Nat) : s.Stored (s.runStage c v loaded) := by
  have hramp : ∀ (t : State) (st : Step), t.Stored (t.modChamber c (Chamber.ramped loaded st)) := fun _ _ =>
    stored_chamber rfl rfl id
  have hdwell : s.Stored (s.modChamber c fun x => { x with dwell := satAdd Config.maxCount x.dwell loaded }) :=
    stored_chamber rfl rfl id
  unfold State.runStage
  dsimp only
  refine hdwell.trans ?_
  split
  · split
    · exact ((stored_stepChange _ c _ _).offered c _).trans (hramp _ _)
    · exact (stored_intoCooling _ c _).trans (stored_coolingEvents _ c _ _)
  · exact hramp _ _

theorem stored_coolingStage (s : State) (c : ChamberNo) (v : RunView) (loaded : Nat) :
    s.Stored (s.coolingStage c v loaded) := by
  have hdwell : s.Stored (s.modChamber c fun x => { x with dwell := satAdd Config.maxCount x.dwell loaded }) :=
    stored_chamber rfl rfl id
  exact ite_keeps (hdwell.trans (stored_complete _ c)) hdwell

theorem stored_countdownStage (s : State) (c : ChamberNo) : s.Stored (s.countdownStage c) :=
  ite_keeps (.refl s) (stored_chamber rfl rfl id)

theorem stored_evaluate (s : State) (c : ChamberNo) (v : RunView) (loaded : Nat) : s.Stored (s.evaluate c v loaded) := by
  have hstats : s.Stored (s.statsStage c) := stored_chamber rfl rfl id
  have hserved := (hstats.trans (stored_countStage _ c)).trans (stored_commandStage _ c v)
  have hrun := fun p [Decidable p] => ite_keeps (p := p) (hserved.trans (stored_runStage _ c v loaded)) hserved
  exact State.Stored.trans (ite_keeps ((hrun _).trans (stored_coolingStage _ c v loaded)) (hrun _)) (stored_countdownStage _ c)

theorem stored_beginRun (s : State) (c : ChamberNo) (origin : Port) (t : Nat) (st : Step) :
    s.Stored (s.beginRun c origin t st) := by
  refine State.Stored.offered ?_ c (.start origin)
  exact stored_chamber rfl rfl id

/-- LOAD empties the queue (R64) and the ring (R99). -/
theorem stored_bind (s : State) (c : ChamberNo) (k : Fin 8) : s.Stored (s.bind c k) := by
  have hbound : s.Stored (((s.modCharge k fun ch => { ch with state := .loaded, chamber := some c }).modChamber c
      (Chamber.bindTo k)).setBank c (s.bank c).loaded) := stored_chamber rfl rfl fun _ => Nat.zero_le 4
  refine hbound.trans ⟨⟨fun d => ?_, fun _ h => h, id⟩, blockKept_of_same rfl rfl rfl⟩
  have hring : (s.bind c k).eventRing d = if c = d then (s.eventRing c).emptied else s.eventRing d :=
    eventRing_setRing _ c d _
  rw [hring]
  split
  · rename_i h
    subst h
    exact .single .emptied
  · exact .refl

/-! ### Doors -/

theorem stored_beginHold (s : State) (c : ChamberNo) (ret : ReturnState) : s.Stored (s.beginHold c ret) := by
  refine State.Stored.offered ?_ c (.doorOpen true)
  exact stored_chamber rfl rfl id

theorem stored_opened (s : State) (c : ChamberNo) : s.Stored (s.opened c) := by
  unfold State.opened
  split
  · exact stored_beginHold s c _
  · exact stored_beginHold s c _
  all_goals exact stored_offer s c _

theorem stored_endHold (s : State) (c : ChamberNo) (h : DoorHold) (ret : ChamberState) : s.Stored (s.endHold c h ret) := by
  unfold State.endHold
  dsimp only
  split
  · refine State.Stored.offered (State.Stored.offered ?_ c _) c _
    exact stored_chamber rfl rfl id
  · refine State.Stored.offered ?_ c _
    exact stored_chamber rfl rfl id

theorem stored_shut (s : State) (c : ChamberNo) : s.Stored (s.shut c) := by
  unfold State.shut
  split
  · exact stored_endHold s c _ _
  · exact stored_offer s c _

theorem stored_setMonitor (s : State) (c : ChamberNo) (d : DoorMonitor) : s.Stored (s.setMonitor c d) := stored_of_same rfl rfl

theorem stored_acceptDoor (s : State) (c : ChamberNo) (level : DoorLevel) : s.Stored (s.acceptDoor c level) := by
  cases level with
  | opened => exact (stored_setMonitor s c _).trans (stored_opened _ c)
  | closed => exact (stored_setMonitor s c _).trans (stored_shut _ c)

theorem stored_sampleDoor (s : State) (c : ChamberNo) (level : DoorLevel) : s.Stored (s.sampleDoor c level) := by
  unfold State.sampleDoor
  dsimp only
  split
  · exact stored_of_same rfl rfl
  · split
    · exact stored_of_same rfl rfl
    · exact ite_keeps ((stored_setMonitor s c _).trans (stored_acceptDoor _ c level)) (stored_of_same rfl rfl)

/-! ### Resets and the return of main power -/

theorem stored_doorAtReturn (s : State) (c : ChamberNo) : s.Stored (s.doorAtReturn c) := by
  unfold State.doorAtReturn
  split
  case h_7 | h_8 | h_9 | h_10 => exact .refl s
  all_goals exact stored_chamber rfl rfl id

theorem stored_chamberReturn (s : State) (c : ChamberNo) (level : DoorLevel) : s.Stored (s.chamberReturn c level) := by
  have hdoor := (stored_setMonitor s c { s.monitor c with input := level, door := level, debounce := none }).trans
    (stored_doorAtReturn _ c)
  unfold State.chamberReturn
  dsimp only
  generalize State.doorAtReturn c _ = u at hdoor
  have hcount : u.Stored (u.modChamber c Chamber.atReturn) := by
    refine stored_chamber rfl rfl fun _ => ?_
    unfold Chamber.atReturn
    split
    all_goals exact Nat.zero_le 4
  have hmark := fun p [Decidable p] => ite_keeps (P := s.Stored) (p := p)
    (t := ((u.modChamber c Chamber.atReturn).modBound c (Charge.mark .powerHold)).raise .held)
    ((hdoor.trans hcount).trans (stored_of_same rfl rfl)) (hdoor.trans hcount)
  exact ite_keeps (hmark _) ((hmark _).offered c _)

/-- A power return takes the blocked field from the tally as it stands (R135). -/
theorem stored_powerReturn (s : State) (d0 d1 d2 d3 : DoorLevel) : s.Stored (s.powerReturn d0 d1 d2 d3) := by
  have hports : s.Stored { s.portsHome.silenceReturn with
      power := ⟨true, s.power.vbatInRange, s.power.vbatInRange, true⟩
      lineReady := decide (s.fifo.length ≤ 24)
      blocked := s.tallyStuck } := {
    bounded_of_fifo rfl rfl id with block := fun _ h => h }
  exact (((hports.trans (stored_chamberReturn _ 0 d0)).trans (stored_chamberReturn _ 1 d1)).trans
    (stored_chamberReturn _ 2 d2)).trans (stored_chamberReturn _ 3 d3)

theorem stored_cleared (s : State) (d0 d1 d2 d3 : DoorLevel) (vbat : Bool) (baud : Baud) (queue : List Instr) :
    s.Stored (State.cleared d0 d1 d2 d3 vbat baud queue) where
  rings c := by
    have hring : (State.cleared d0 d1 d2 d3 vbat baud queue).eventRing c = ⟨[], 0, false⟩ := by
      simp [State.eventRing, State.cleared]
    rw [hring]
    exact .single .cleared
  queues c _ := by simp [State.chamber, State.cleared, Chamber.cleared]
  fifo _ := Nat.zero_le 32
  block _ := blockKept_of_nil rfl

theorem stored_mainReturns (s : State) (d0 d1 d2 d3 : DoorLevel) : s.Stored (s.mainReturns d0 d1 d2 d3) :=
  ite_keeps (stored_powerReturn s d0 d1 d2 d3) (stored_cleared s d0 d1 d2 d3 _ _ _)

theorem stored_portReset (s : State) : s.Stored s.portReset := stored_chambers rfl rfl fun _ _ => Nat.zero_le 4

theorem stored_clearReset (s : State) : s.Stored s.clearReset where
  rings c := by
    have hring : s.clearReset.eventRing c = (s.eventRing c).emptied := by simp [State.eventRing, State.clearReset]
    rw [hring]
    exact .single .emptied
  queues c _ := by simp [State.chamber, State.clearReset, Chamber.cleared]
  fifo _ := Nat.zero_le 32
  block _ := blockKept_of_nil rfl

end

end Sys2Proof.Machine
end

-- ==== Proofs: every command keeps the bounded stores ====
section
/-! R70, R97, R99, R112, R130: the owners of the requests, the commands one by one, and what every step keeps. -/

namespace Sys2Proof.Machine

section
variable {s t : State} {c : ChamberNo}

/-! ### Owners of requests -/

/-- What an owner answers, if it answers, keeps the stores of `s`. -/
abbrev Stores (s : State) (o : Owned) : Prop := Answered s.Stored o

theorem answered_same {a : Answer} (hc : t.chambers = s.chambers) (hst : t.stores = s.stores) : Stores s (some (t, a)) :=
  answered_some (stored_of_same hc hst)

theorem loadOwner_stores (params : List Byte) : Stores s (loadOwner params s) := by
  unfold loadOwner
  split
  · refine answered_withChamber (.refl s) fun c => ?_
    split
    · exact answered_same rfl rfl
    · split
      · exact answered_same rfl rfl
      · split
        · exact answered_same rfl rfl
        · exact answered_some (stored_bind s c _)
  · exact answered_same rfl rfl

theorem startOwner_stores (origin : Port) (params : List Byte) : Stores s (startOwner origin params s) := by
  unfold startOwner
  split
  · refine answered_withChamber (.refl s) fun c => ?_
    split
    · exact answered_same rfl rfl
    · split
      · exact answered_same rfl rfl
      · split
        · exact answered_none
        · dsimp only
          split
          · exact answered_none
          · have hstats : s.Stored (s.computeStats c) := stored_chamber rfl rfl id
            exact answered_some (hstats.trans (stored_beginRun _ c _ _ _))
  · exact answered_same rfl rfl

theorem abortOwner_stores (params : List Byte) : Stores s (abortOwner params s) := by
  unfold abortOwner
  split
  · refine answered_withChamber (.refl s) fun c => ?_
    split
    · exact answered_same rfl rfl
    · split
      · exact answered_none
      · have hmark : s.Stored (s.modBound c (Charge.mark .aborted)) := stored_of_same rfl rfl
        exact answered_some ((hmark.trans (stored_intoCooling _ c _)).trans (stored_coolingEvents _ c _ _))
  · exact answered_same rfl rfl

theorem releaseOwner_stores (params : List Byte) : Stores s (releaseOwner params s) := by
  unfold releaseOwner
  split
  · refine answered_withChamber (.refl s) fun c => ?_
    split
    · exact answered_same rfl rfl
    · split
      · exact answered_none
      · exact answered_some (stored_chamber rfl rfl id)
  · exact answered_same rfl rfl

/-- R70: a command joins a queue of fewer than four. -/
theorem queueOwner_stores (cmd : RunCommand) (params : List Byte) : Stores s (queueOwner cmd params s) := by
  unfold queueOwner
  split
  · refine answered_withChamber (.refl s) fun c => ?_
    dsimp only
    split
    · exact answered_same rfl rfl
    · split
      · exact answered_same rfl rfl
      · rename_i hroom
        refine answered_some (stored_setQueue fun _ => ?_)
        rw [List.length_append]
        exact Nat.lt_of_not_le hroom
  · exact answered_same rfl rfl

theorem chamberSetOwner_stores (params : List Byte) : Stores s (chamberSetOwner params s) := by
  unfold chamberSetOwner
  split
  · refine answered_withChamber (.refl s) fun c => ?_
    split
    · exact answered_same rfl rfl
    · exact answered_some (stored_chamber rfl rfl id)
  · exact answered_same rfl rfl

theorem markOwner_stores (origin : Port) (params : List Byte) : Stores s (markOwner origin params s) := by
  unfold markOwner
  split
  · refine answered_withChamber (.refl s) fun c => ?_
    dsimp only
    split
    all_goals exact answered_some (stored_offer s c _)
  · exact answered_same rfl rfl

theorem probeEnableOwner_stores (params : List Byte) : Stores s (probeEnableOwner params s) := by
  unfold probeEnableOwner
  split
  · exact answered_withChamber (.refl s) fun _ => answered_same rfl rfl
  · exact answered_same rfl rfl

theorem checkOwner_stores (params : List Byte) : Stores s (checkOwner params s) := by
  unfold checkOwner
  split
  · split
    · split
      · exact answered_same rfl rfl
      · split
        · exact answered_same rfl rfl
        · split
          · exact answered_some ((stored_setBank s _ _).trans (stored_offer _ _ _))
          all_goals exact answered_same rfl rfl
    · exact answered_same rfl rfl
  · exact answered_same rfl rfl

theorem endDrawOwner_stores : Stores s (endDrawOwner s) := by
  unfold endDrawOwner
  split
  · split
    · exact answered_same rfl rfl
    · split
      · exact answered_none
      · exact answered_same rfl rfl
  · exact answered_same rfl rfl

theorem closePackOwner_stores : Stores s (closePackOwner s) := by
  unfold closePackOwner
  split
  · exact answered_same rfl rfl
  · intro t a h
    obtain ⟨u, hu, he⟩ := Option.map_eq_some_iff.1 h
    obtain ⟨rfl, -⟩ := Prod.mk.inj he
    exact (bounded_closePack hu).checked

/-- A pack issued is one that was not OPEN, so the tally is stuck where it was before. -/
theorem blockKept_issued {k : Fin 16} {p : Pack} (hk : s.pack k = some p) (hp : p.state ≠ .opened) (h : s.BlockKept) :
    (s.setPack k (some { p with state := .issued })).BlockKept := by
  intro hstuck
  obtain ⟨hf, hopen, hfree⟩ := tallyStuck_iff.1 hstuck
  refine h (tallyStuck_iff.2 ⟨hf, fun j q hj => ?_, fun j hj => ?_⟩) <;> by_cases hkj : k = j
  · subst hkj
    obtain rfl := Option.some.inj (hk.symm.trans hj)
    exact hp
  · exact hopen j q ((State.pack_setPack_other s _ hkj).trans hj)
  · subst hkj
    cases hk.symm.trans hj
  · exact hfree j ((State.pack_setPack_other s _ hkj).trans hj)

theorem nextLabelOwner_stores : Stores s (nextLabelOwner s) := by
  unfold nextLabelOwner
  split
  · exact answered_same rfl rfl
  · rename_i k p hf
    obtain ⟨hk, hst⟩ := oldestInQueue_some hf
    split
    · exact answered_none
    · exact answered_some { bounded_of_fifo rfl rfl id with block := blockKept_issued hk (by simp [hst]) }

theorem ackLabelOwner_stores (params : List Byte) : Stores s (ackLabelOwner params s) := by
  unfold ackLabelOwner
  split
  · dsimp only
    split
    · exact answered_same rfl rfl
    · rename_i k p _
      split
      · exact answered_same rfl rfl
      · split
        · exact answered_same rfl rfl
        · exact answered_some { bounded_of_fifo rfl rfl id with
            block := fun _ => blockKept_of_free (State.pack_setPack_same s k none) }
  · exact answered_same rfl rfl

theorem reprintOwner_stores (params : List Byte) : Stores s (reprintOwner params s) := by
  unfold reprintOwner
  split
  · dsimp only
    split
    · exact answered_same rfl rfl
    · split
      · exact answered_same rfl rfl
      · split
        · exact answered_none
        · exact answered_same rfl rfl
  · exact answered_same rfl rfl

/-! The other owners read no link and touch no store: each of their branches answers with the stores of `s`. -/

theorem drawOwner_stores (params : List Byte) : Stores s (drawOwner params s) := by
  unfold drawOwner
  repeat' split
  all_goals exact answered_same rfl rfl

theorem newChargeOwner_stores (params : List Byte) : Stores s (newChargeOwner params s) := by
  unfold newChargeOwner createCharge
  dsimp only
  repeat' split
  all_goals exact answered_same rfl rfl

theorem deleteChargeOwner_stores (params : List Byte) : Stores s (deleteChargeOwner params s) := by
  unfold deleteChargeOwner
  repeat' split
  all_goals exact answered_same rfl rfl

theorem writeOwner_stores (p : Port) (params : List Byte) : Stores s (writeOwner p params s) := by
  unfold writeOwner writeStagingOwner writeSpeciesOwner
  dsimp only
  repeat' split
  all_goals exact answered_same rfl rfl

theorem commitScheduleOwner_stores (params : List Byte) : Stores s (commitScheduleOwner params s) := by
  unfold commitScheduleOwner
  repeat' split
  all_goals exact answered_same rfl rfl

theorem clearScheduleOwner_stores (params : List Byte) : Stores s (clearScheduleOwner params s) := by
  unfold clearScheduleOwner
  repeat' split
  all_goals exact answered_same rfl rfl

theorem packPlanOwner_stores (params : List Byte) : Stores s (packPlanOwner params s) := by
  unfold packPlanOwner
  repeat' split
  all_goals exact answered_same rfl rfl

theorem setTimeOwner_stores (params : List Byte) : Stores s (setTimeOwner params s) := by
  unfold setTimeOwner
  split
  all_goals exact answered_same rfl rfl

theorem setCursorOwner_stores (p : Port) (params : List Byte) : Stores s (setCursorOwner p params s) := by
  unfold setCursorOwner
  repeat' split
  all_goals exact answered_same rfl rfl

theorem readOwner_stores (p : Port) : Stores s (readOwner p s) := by
  unfold readOwner
  dsimp only
  split
  all_goals exact answered_same rfl rfl

theorem setNoticeMaskOwner_stores (p : Port) (params : List Byte) : Stores s (setNoticeMaskOwner p params s) := by
  unfold setNoticeMaskOwner
  dsimp only
  repeat' split
  all_goals exact answered_same rfl rfl

/-! ### Events -/

theorem request_stored {r : Request} {p : Port} {tag : Byte} {owner : State → Owned} (ho : Stores s (owner s))
    (h : request r p tag owner s = .next t) : s.Stored t :=
  request_keeps (P := s.Stored) (fun _ _ hu => hu.trans (stored_of_same rfl rfl)) (.refl s) ho h

theorem whilePowered_stored {o : Host.Outcome State Fault Refusal} (ho : o = .next t → s.Stored t)
    (h : whilePowered s o = .next t) : s.Stored t :=
  whilePowered_keeps (P := s.Stored) (.refl s) ho h

/-- An event taken while main power is on that changes `s` where a test holds. -/
theorem whilePowered_ite_stored {u : State} {p : Prop} [Decidable p]
    (h : whilePowered s (.next (if p then u else s)) = .next t) (hu : s.Stored u) : s.Stored t :=
  whilePowered_stored (next_keeps (stored_ite hu)) h

theorem execUnknownRequest_stored {p : Port} {code tag : Byte} (h : execUnknownRequest p code tag s = .next t) :
    s.Stored t := by
  unfold execUnknownRequest at h
  split at h
  · cases h
  · split at h <;> cases h <;> exact stored_of_same rfl rfl

theorem execProbeFrame_stored {chamber channel high low check : Byte}
    (h : execProbeFrame chamber channel high low check s = .next t) : s.Stored t := by
  have hs : s.Stored { s with probeRx := .hunt } := stored_of_same rfl rfl
  unfold execProbeFrame at h
  split at h
  · split at h
    · exact hs.trans (stored_takeReading (orBroken_eq_next.1 h))
    · cases h; exact hs
  · cases h; exact .refl s

theorem execBoardFrame_stored {sequence mcHigh mcLow lengthHigh lengthLow check : Byte}
    (h : execBoardFrame sequence mcHigh mcLow lengthHigh lengthLow check s = .next t) : s.Stored t := by
  have hs : s.Stored { s with boardRx := .hunt } := stored_of_same rfl rfl
  unfold execBoardFrame at h
  split at h
  · split at h
    · exact hs.trans (stored_grade (orBroken_eq_next.1 h))
    · cases h; exact hs
  · cases h; exact .refl s

theorem execTallyMove_stored (h : execTallyMove s = .next t) : s.Stored t := by
  refine whilePowered_stored (fun h => ?_) h
  split at h
  · split at h
    · rename_i hf
      exact stored_moveBoard hf (orBroken_eq_next.1 h)
    · cases h; exact .refl s
  · cases h; exact .refl s

theorem execDrawEnd_stored (h : execDrawEnd s = .next t) : s.Stored t := by
  refine whilePowered_stored (fun h => ?_) h
  split at h
  · split at h
    · exact stored_endDraw (orBroken_eq_next.1 h)
    · cases h; exact .refl s
  · cases h; exact .refl s

theorem execLineSilenceExpiry_stored (h : execLineSilenceExpiry s = .next t) : s.Stored t := by
  refine whilePowered_stored (fun h => ?_) h
  split at h
  · split at h
    · exact stored_expireSilence (orBroken_eq_next.1 h)
    · cases h; exact .refl s
  · cases h; exact .refl s

theorem execEvaluationInstant_stored (h : execEvaluationInstant c s = .next t) : s.Stored t := by
  refine whilePowered_stored (fun h => ?_) h
  split at h
  · split at h
    · obtain ⟨v, -, rfl⟩ := Option.map_eq_some_iff.1 (orBroken_eq_next.1 h)
      exact stored_evaluate s c v _
    · cases h; exact .refl s
  · cases h; exact .refl s

theorem execMillTimeWrap_stored (h : execMillTimeWrap s = .next t) : s.Stored t := by
  refine next_keeps (stored_ite (ite_keeps ?_ ?_)) h
  all_goals exact stored_of_same rfl rfl

/-! ### Every command -/

/-- Every command keeps the bounded stores, command by command. -/
theorem exec_stored {i : Instr} (h : exec i s = .next t) : s.Stored t := by
  cases i with
  | load _ _ ps => exact request_stored (loadOwner_stores ps) h
  | start p _ ps => exact request_stored (startOwner_stores p ps) h
  | hold _ _ ps => exact request_stored (queueOwner_stores .hold ps) h
  | resume _ _ ps => exact request_stored (queueOwner_stores .resume ps) h
  | step _ _ ps => exact request_stored (queueOwner_stores .step ps) h
  | skipPhase _ _ ps => exact request_stored (queueOwner_stores .skipPhase ps) h
  | abort _ _ ps => exact request_stored (abortOwner_stores ps) h
  | release _ _ ps => exact request_stored (releaseOwner_stores ps) h
  | check _ _ ps => exact request_stored (checkOwner_stores ps) h
  | probeEnable _ _ ps => exact request_stored (probeEnableOwner_stores ps) h
  | chamberSet _ _ ps => exact request_stored (chamberSetOwner_stores ps) h
  | draw _ _ ps => exact request_stored (drawOwner_stores ps) h
  | endDraw => exact request_stored endDrawOwner_stores h
  | closePack => exact request_stored closePackOwner_stores h
  | newCharge _ _ ps => exact request_stored (newChargeOwner_stores ps) h
  | deleteCharge _ _ ps => exact request_stored (deleteChargeOwner_stores ps) h
  | writeStaging p _ ps => exact request_stored (writeOwner_stores p ps) h
  | writeSpecies p _ ps => exact request_stored (writeOwner_stores p ps) h
  | commitSchedule _ _ ps => exact request_stored (commitScheduleOwner_stores ps) h
  | clearSchedule _ _ ps => exact request_stored (clearScheduleOwner_stores ps) h
  | packPlan _ _ ps => exact request_stored (packPlanOwner_stores ps) h
  | nextLabel => exact request_stored nextLabelOwner_stores h
  | ackLabel _ _ ps => exact request_stored (ackLabelOwner_stores ps) h
  | reprint _ _ ps => exact request_stored (reprintOwner_stores ps) h
  | setTime _ _ ps => exact request_stored (setTimeOwner_stores ps) h
  | setCursor p _ ps => exact request_stored (setCursorOwner_stores p ps) h
  | read p => exact request_stored (readOwner_stores p) h
  | readNotices p => exact request_stored (owner := readNoticesOwner p) (answered_same rfl rfl) h
  | setNoticeMask p _ ps => exact request_stored (setNoticeMaskOwner_stores p ps) h
  | status p => exact request_stored (owner := fun s => took s (s.statusResults p)) (answered_same rfl rfl) h
  | mark p _ ps => exact request_stored (markOwner_stores p ps) h
  | unknownRequest => exact execUnknownRequest_stored h
  | requestFrameCrcFail | portFrameBadLength | vbatRangeChange => cases h; split <;> exact stored_of_same rfl rfl
  | probeFrame => exact execProbeFrame_stored h
  | boardFrame => exact execBoardFrame_stored h
  | tallyMove => exact execTallyMove_stored h
  | drawEnd => exact execDrawEnd_stored h
  | lineSilenceExpiry => exact execLineSilenceExpiry_stored h
  | evaluationInstant => exact execEvaluationInstant_stored h
  | doorInputChange c level => exact whilePowered_stored (next_keeps (stored_sampleDoor s c level)) h
  | doorDebounceExpiry c => exact whilePowered_ite_stored h (stored_acceptDoor s c _)
  | millTimeWrap => exact execMillTimeWrap_stored h
  | mainPowerLoss => exact whilePowered_stored (fun h => by cases h; exact stored_of_same rfl rfl) h
  | powerReturn d0 d1 d2 d3 => exact next_keeps (ite_keeps (.refl s) (stored_mainReturns s d0 d1 d2 d3)) h
  | clearedStart d0 d1 d2 d3 => exact next_keeps (ite_keeps (.refl s) (stored_mainReturns s d0 d1 d2 d3)) h
  | portReset => exact whilePowered_stored (next_keeps (stored_portReset s)) h
  | clearReset => exact whilePowered_stored (next_keeps (stored_clearReset s)) h
  | portFrameWindowExpiry | responseSent | probeFrameWindowExpiry | boardFrameWindowExpiry | doorLimitPassed | portStartByte
  | probeStartByte | boardStartByte => exact whilePowered_ite_stored h (stored_of_same rfl rfl)

/-! ### Steps -/

theorem stored_idle (s : State) : s.Stored s.idle := by
  have htick : s.Stored s.tick :=
    ite_keeps (stored_chambers (f := Chamber.tick) rfl rfl fun _ => id) (stored_of_same rfl rfl)
  unfold State.idle
  split
  · exact htick
  · exact stored_of_same rfl rfl

theorem step_stored (h : step s = .next t) : s.Stored t := by
  obtain ⟨i, rest, -, hexec⟩ | ⟨-, rfl⟩ := step_next h
  · exact State.Stored.trans (t := { s with pending := rest }) (stored_of_same rfl rfl) (exec_stored hexec)
  · exact stored_idle s

end

/-- Settles O53: every step is a change that keeps the stores; a ring keeps its size and its order through each change of it. -/
theorem storesKept : Obligations.StoresKept := by
  intro s t h
  have hst := step_stored h
  refine ⟨fun ⟨hf, hr, hq⟩ => ⟨hst.fifo hf, fun c => ?_, fun c => hst.queues c (hq c)⟩, fun ⟨_, hr⟩ c => ?_, hst.block⟩
  · exact EventRing.Changes.keeps (P := fun r => r.entries.length ≤ 8) (fun _ _ h => h.length_le) (hst.rings c) (hr c)
  · exact EventRing.Changes.keeps (P := EventRing.InOrder) (fun _ _ h => h.inOrder) (hst.rings c) (hr c)

end Sys2Proof.Machine
end

-- ==== Proofs: the ramp, the entry step and the output pins ====
section
/-! R62, R66, R80, R161, R168: what a run computes at its start and at its instants, and what the pins show with main power on and
off. -/

namespace Sys2Proof.Machine

/-! ### The ramp -/

/-- The ramp of R80 with the whole tenths and the rest of its division. -/
theorem rampMove_eq (rate loaded target setpoint acc : Nat) : rampMove rate loaded target setpoint acc =
    let w := (acc + rate * loaded) / 3600
    let rest := (acc + rate * loaded) % 3600
    if rate = 0 ∨ setpoint = target then (target, 0)
    else if setpoint < target then if target ≤ setpoint + w then (target, 0) else (setpoint + w, rest)
    else if setpoint ≤ target + w then (target, 0)
    else (setpoint - w, rest) := by
  unfold rampMove
  dsimp only
  rw [← Nat.mod_eq_sub_div_mul]

/-- Settles O33: each case of the ramp is one branch, and in every branch the setpoint stands between its old value and the
target. -/
theorem rampMoves : Obligations.RampMoves := by
  rintro r loaded target setpoint acc w m rfl rfl
  rw [rampMove_eq]
  have hrest := Nat.mod_lt (acc + r * loaded) (show 3600 > 0 by decide)
  dsimp only
  generalize (acc + r * loaded) / 3600 = w
  generalize (acc + r * loaded) % 3600 = rest at hrest
  refine ⟨fun h => if_pos h, fun hr hlt hreach => ?_, fun hr hlt hshort => ?_, fun hr hlt hreach => ?_,
    fun hr hlt hshort => ?_, ?_⟩
  · rw [if_neg (by omega), if_pos hlt, if_pos hreach]
  · rw [if_neg (by omega), if_pos hlt, if_neg (by omega)]
  · rw [if_neg (by omega), if_neg (by omega), if_pos hreach]
  · rw [if_neg (by omega), if_neg (by omega), if_neg (by omega)]
  · split
    · dsimp only; omega
    · split <;> split <;> dsimp only <;> omega

/-! ### The entry step -/

theorem qualifies_iff {wettestHalf : Nat} {st : Step} : st.qualifies wettestHalf = true ↔
    st.phase = .equalize ∨ st.phase = .condition ∨ st.changeAt = 0 ∨ st.changeAt < wettestHalf := by
  cases h : st.phase <;> simp [Step.qualifies, h]

/-- On valid statistics the entry step is the first that qualifies, the last when none does (R66). -/
theorem entryStep_valid {stats : Stats} {v : StatValues} (hv : stats.values = some v) (steps : List Step) :
    entryStep steps stats = (steps.findIdx? (Step.qualifies v.wettestHalf)).getD (steps.length - 1) := by
  unfold entryStep
  simp only [hv]
  cases steps.findIdx? (Step.qualifies v.wettestHalf) <;> rfl

/-- Settles O25: the search of R66 stops at the first step that qualifies. -/
theorem entryStepChosen : Obligations.EntryStepChosen := by
  intro steps stats hne
  refine ⟨fun hv => by simp only [entryStep, hv], ?_⟩
  intro v hv qualifies
  have hq : ∀ st, qualifies st ↔ st.qualifies v.wettestHalf = true := fun st => qualifies_iff.symm
  rw [entryStep_valid hv]
  refine ⟨fun t st ht hst hbefore => ?_, fun hnone => ?_⟩
  · obtain ⟨hlt, rfl⟩ := List.getElem?_eq_some_iff.1 ht
    have hfind : steps.findIdx? (Step.qualifies v.wettestHalf) = some t :=
      List.findIdx?_eq_some_iff_getElem.2 ⟨hlt, (hq _).1 hst, fun e he hqe =>
        hbefore e _ he (List.getElem?_eq_getElem (he.trans hlt)) ((hq _).2 hqe)⟩
    rw [hfind, Option.getD_some]
  · have hfind : steps.findIdx? (Step.qualifies v.wettestHalf) = none :=
      List.findIdx?_eq_none_iff.2 fun st hst => Bool.eq_false_iff.2 (mt (hq st).2 (hnone st hst))
    rw [hfind, Option.getD_none]
    exact Nat.sub_add_cancel (List.length_pos_iff.2 hne)

/-! ### Output pins, VBAT and main power -/

theorem heat_iff {st : ChamberState} : st.heat = true ↔ st = .running ∨ st = .held := by
  cases st <;> simp [ChamberState.heat]

theorem attnPin_eq (s : State) (p : Port) : s.attnPin p = (s.power.main && (s.port p).attn) := by
  cases p <;> rfl

/-- With main power off no output is driven (R168). -/
theorem pins_unpowered {s : State} (h : s.power.main = false) :
    (∀ c, s.heatPermitPin c = false) ∧ s.lineReadyPin = false ∧ ∀ p, s.attnPin p = false := by
  simp [State.heatPermitPin, State.lineReadyPin, attnPin_eq, h]

theorem pins_powered {s : State} (h : s.power.main = true) :
    (∀ c, s.heatPermitPin c = true ↔ (s.chamber c).state = .running ∨ (s.chamber c).state = .held) ∧
    (∀ p, s.attnPin p = true ↔ (s.port p).pending &&& (s.port p).mask ≠ 0#12) ∧ s.lineReadyPin = s.lineReady := by
  refine ⟨fun c => ?_, fun p => ?_, ?_⟩
  · rw [State.heatPermitPin, h, Bool.true_and]
    exact heat_iff
  · rw [attnPin_eq, h, Bool.true_and, PortState.attn, bne_iff_ne]
  · rw [State.lineReadyPin, h, Bool.true_and]

theorem exec_vbat_powered {s : State} (h : s.power.main = true) (inRange : Bool) : exec (.vbatRangeChange inRange) s =
    .next { s with power := ⟨s.power.main, inRange, inRange, s.power.holdMarker⟩ } :=
  congrArg Host.Outcome.next (if_pos h)

theorem exec_vbat_unpowered {s : State} (h : s.power.main = false) (inRange : Bool) : exec (.vbatRangeChange inRange) s =
    .next { s with power := ⟨s.power.main, inRange, s.power.backupValid, s.power.holdMarker && inRange⟩ } :=
  congrArg Host.Outcome.next (if_neg (by simp [h]))

/-- Settles O47: the pins by the power flag, and the power commands by their one test of it. -/
theorem powerLostAndVbat : Obligations.PowerLostAndVbat := by
  intro s inRange
  refine ⟨pins_powered, fun h => ?_, fun h => ?_, fun h => ?_, fun h => if_neg (by simp [h]), fun h => ?_⟩
  · obtain ⟨hheat, hline, hattn⟩ := pins_unpowered h
    exact ⟨hheat, hattn, hline⟩
  · rw [exec_vbat_powered h, h]
  · rw [exec_vbat_unpowered h, h]
  · exact ⟨_, if_pos h, rfl, pins_unpowered rfl⟩

end Sys2Proof.Machine
end

-- ==== Proofs: the requests to a chamber ====
section
/-! Chapter 4: LOAD, START, ABORT, RELEASE, the run commands on arrival and CHAMBER-SET, and PACK-PLAN of chapter 7: each owner's
answer case by case, passed through the port. -/

namespace Sys2Proof.Machine

/-! ### Records replaced twice, and through links that are whole -/

theorem setChamber_setChamber (s : State) (c : ChamberNo) (x y : Chamber) :
    (s.setChamber c x).setChamber c y = s.setChamber c y := by
  simp [State.setChamber]

theorem modCharge_eq_set {s : State} {k : Fin 8} {ch : Charge} (f : Charge → Charge) (h : s.charge k = some ch) :
    s.modCharge k f = s.setCharge k (some (f ch)) := by
  rw [State.modCharge, h, Option.map_some]

/-- A change through a whole binding replaces the bound charge. -/
theorem modBound_eq_set {s : State} {c : ChamberNo} {k : Fin 8} {ch : Charge} (f : Charge → Charge)
    (hk : (s.chamber c).chargeSlot = some k) (hch : s.charge k = some ch) : s.modBound c f = s.setCharge k (some (f ch)) := by
  rw [modBound_some f hk, modCharge_eq_set f hch]

theorem scheduleAt_of_links {s : State} {c : ChamberNo} {k : Fin 8} {ch : Charge} {sch : Schedule}
    (hk : (s.chamber c).chargeSlot = some k) (hch : s.charge k = some ch) (hsch : s.schedules[ch.schedule] = some sch) :
    (s.bound c).bind (fun (_, ch) => s.scheduleOf ch) = some sch :=
  scheduleAt_eq_some.2 ⟨k, ch, hk, hch, hsch⟩

section
variable {s : State} {c : ChamberNo} {b : Byte} {rest : List Byte}

/-! ### LOAD -/

theorem loadOwner_outOfRange {hi lo : Byte} (h : 4 ≤ b.toNat) :
    loadOwner (b :: hi :: lo :: rest) s = refuse .outOfRange s := by
  rw [loadOwner, withChamber_outside h]

theorem loadOwner_wrongState {hi lo : Byte} (hb : b.toNat = c.val) (hx : (s.chamber c).state ≠ .empty) :
    loadOwner (b :: hi :: lo :: rest) s = refuse .wrongState s := by
  rw [loadOwner, withChamber_inside hb]
  exact if_pos (bne_iff_ne.2 hx)

theorem loadOwner_noCharge {hi lo : Byte} (hb : b.toNat = c.val) (hx : (s.chamber c).state = .empty)
    (h : ∀ k ch, s.chargeById (nat16 hi lo) = some (k, ch) → ch.state ≠ .assigned) :
    loadOwner (b :: hi :: lo :: rest) s = refuse .noCharge s := by
  rw [loadOwner, withChamber_inside hb]
  refine (if_neg (by simp [hx])).trans ?_
  cases hf : s.chargeById (nat16 hi lo) with
  | none => rfl
  | some r => exact if_pos (bne_iff_ne.2 (h r.1 r.2 hf))

theorem loadOwner_taken {hi lo : Byte} {k : Fin 8} {ch : Charge} (hb : b.toNat = c.val) (hx : (s.chamber c).state = .empty)
    (hf : s.chargeById (nat16 hi lo) = some (k, ch)) (ha : ch.state = .assigned) :
    loadOwner (b :: hi :: lo :: rest) s = took (s.bind c k) (u8 c.val ++ u16 ch.id ++ u8 k.val) := by
  rw [loadOwner, withChamber_inside hb]
  refine (if_neg (by simp [hx])).trans ?_
  simp only [hf]
  exact if_neg (by simp [ha])

/-- Settles O23: each test of R64 decides its branch of the owner, and the port answers what the owner does. -/
theorem loadAnswers : Obligations.LoadAnswers := by
  intro tag b hi lo rest s ht run
  refine ⟨fun h => request_refused ht rfl (loadOwner_outOfRange h), fun c hb => ⟨fun hx => ?_, fun hx h => ?_, ?_⟩⟩
  · exact request_refused ht rfl (loadOwner_wrongState hb hx)
  · exact request_refused ht rfl (loadOwner_noCharge hb hx h)
  · intro k ch hx hf ha
    refine (request_taken ht rfl (loadOwner_taken hb hx hf ha)).trans ?_
    rw [State.bind, modCharge_eq_set _ (chargeById_some hf).1]
    rfl

/-! ### The run commands on arrival -/

theorem queueOwner_outOfRange {cmd : RunCommand} (h : 4 ≤ b.toNat) :
    queueOwner cmd (b :: rest) s = refuse .outOfRange s := by
  rw [queueOwner, withChamber_outside h]

theorem queueOwner_wrongState {cmd : RunCommand} (hb : b.toNat = c.val) (h : (s.chamber c).state.inRun = false) :
    queueOwner cmd (b :: rest) s = refuse .wrongState s := by
  rw [queueOwner, withChamber_inside hb]
  exact if_pos (by simp [h])

theorem queueOwner_full {cmd : RunCommand} (hb : b.toNat = c.val) (h : (s.chamber c).state.inRun = true)
    (hq : 4 ≤ (s.chamber c).queue.length) : queueOwner cmd (b :: rest) s = refuse .queueFull s := by
  rw [queueOwner, withChamber_inside hb]
  exact (if_neg (by simp [h])).trans (if_pos hq)

theorem queueOwner_taken {cmd : RunCommand} (hb : b.toNat = c.val) (h : (s.chamber c).state.inRun = true)
    (hq : (s.chamber c).queue.length < 4) : queueOwner cmd (b :: rest) s =
      some (s.setChamber c { s.chamber c with queue := (s.chamber c).queue ++ [cmd] },
        ⟨.queued, u8 ((s.chamber c).queue.length + 1)⟩) := by
  rw [queueOwner, withChamber_inside hb]
  exact (if_neg (by simp [h])).trans (if_neg (Nat.not_le.2 hq))

/-- Settles O26: the four commands are one owner's, which tests chamber, state and queue in that order. -/
theorem runCommandsQueued : Obligations.RunCommandsQueued := by
  intro tag b rest s ht i cmd code hi
  have hexec : ∃ r : Request, r.permitted .kiln = true ∧ r.code = code ∧
      exec i s = request r .kiln tag (queueOwner cmd (b :: rest)) s := by
    simp only [List.mem_cons, List.not_mem_nil, or_false, Prod.mk.injEq] at hi
    obtain ⟨rfl, rfl, rfl⟩ | ⟨rfl, rfl, rfl⟩ | ⟨rfl, rfl, rfl⟩ | ⟨rfl, rfl, rfl⟩ := hi
    · exact ⟨.hold, rfl, rfl, rfl⟩
    · exact ⟨.resume, rfl, rfl, rfl⟩
    · exact ⟨.step, rfl, rfl, rfl⟩
    · exact ⟨.skipPhase, rfl, rfl, rfl⟩
  obtain ⟨r, hp, rfl, hexec⟩ := hexec
  rw [hexec]
  refine ⟨fun h => request_refused ht hp (queueOwner_outOfRange h), fun c hb => ⟨fun hx => ?_, fun hx hq => ?_,
    fun hx hq => ?_⟩⟩
  · exact request_refused ht hp (queueOwner_wrongState hb (Bool.eq_false_iff.2 (mt inRun_iff.1 hx)))
  · exact request_refused ht hp (queueOwner_full hb (inRun_iff.2 hx) hq)
  · exact request_taken ht hp (queueOwner_taken hb (inRun_iff.2 hx) hq)

/-! ### The entry to COOLING, ABORT and RELEASE -/

theorem intoCooling_eq {k : Fin 8} {ch : Charge} (hk : (s.chamber c).chargeSlot = some k) (hch : s.charge k = some ch)
    (temp : Nat) : s.intoCooling c temp =
      ((s.setCharge k (some { ch with finalStats := some (s.chamber c).latest })).setChamber c
        ((s.chamber c).cooled temp)).setMonitor c { s.monitor c with hold := none } := by
  rw [State.intoCooling, modBound_eq_set _ hk hch]
  rfl

theorem complete_eq {k : Fin 8} {ch : Charge} (hk : (s.chamber c).chargeSlot = some k) (hch : s.charge k = some ch) :
    s.complete c = (((s.setCharge k (some { ch with state := .dried, endTime := some s.clock.seconds })).setChamber c
      { s.chamber c with state := .complete, countdown := none }).raise .done).offer c .complete := by
  rw [State.complete, modBound_eq_set _ hk hch]
  rfl

/-- Settles O27: the binding is whole, so the entry to COOLING and the completion replace the bound charge. -/
theorem coolingEntered : Obligations.CoolingEntered := by
  intro c k ch cause temp time s hk hch
  refine ⟨intoCooling_eq hk hch temp, fun t ht => ⟨fun h => ?_, fun h => ?_⟩⟩
  · rw [ht]
    exact if_neg h
  · have hchamber : t.chamber c = s.chamber c := by rw [ht]; split <;> rfl
    have hcharge : t.charge k = s.charge k := by rw [ht]; split <;> rfl
    have hcomplete : s.coolingEvents c cause time = t.complete c := by
      rw [ht]
      exact if_pos h
    have hclock : t.clock = s.clock := by rw [ht]; split <;> rfl
    have hchambers : t.chambers = s.chambers := by rw [ht]; split <;> rfl
    have hcharges : t.charges = s.charges := by rw [ht]; split <;> rfl
    rw [hcomplete, complete_eq (hchamber.symm ▸ hk) (hcharge.trans hch)]
    simp only [State.setCharge, State.setChamber, hchamber, hclock, hchambers, hcharges]

theorem complete_chamber (s : State) (c : ChamberNo) :
    (s.complete c).chamber c = { s.chamber c with state := .complete, countdown := none } :=
  State.chamber_modChamber_same
    (s.modBound c fun ch => { ch with state := .dried, endTime := some s.clock.seconds }) c
    fun x => { x with state := .complete, countdown := none }

/-- A cooling time of 0 completes the chamber in the operation that enters COOLING (R84). -/
theorem coolingEvents_state (cause : CoolingCause) (coolTime : Nat) (hx : (s.chamber c).state = .cooling) :
    ((s.coolingEvents c cause coolTime).chamber c).state = if coolTime = 0 then .complete else .cooling := by
  have hevents : ((if cause = .abort then s.offer c (.cooling cause) else (s.offer c (.cooling cause)).raise .step).chamber
      c).state = .cooling := by
    split <;> exact hx
  unfold State.coolingEvents
  dsimp only
  split
  · rw [complete_chamber]
  · exact hevents

theorem abortOwner_outOfRange (h : 4 ≤ b.toNat) : abortOwner (b :: rest) s = refuse .outOfRange s := by
  rw [abortOwner, withChamber_outside h]

theorem abortOwner_wrongState (hb : b.toNat = c.val) (h : (s.chamber c).state.inRun = false) :
    abortOwner (b :: rest) s = refuse .wrongState s := by
  rw [abortOwner, withChamber_inside hb]
  exact if_pos (by simp [h])

theorem abortOwner_taken {sch : Schedule} (hb : b.toNat = c.val) (h : (s.chamber c).state.inRun = true)
    (hsch : (s.bound c).bind (fun (_, ch) => s.scheduleOf ch) = some sch) :
    abortOwner (b :: rest) s = took (s.abortRun c sch)
      (u8 (if sch.coolTime = 0 then ChamberState.complete else .cooling).code) := by
  rw [abortOwner, withChamber_inside hb]
  refine (if_neg (by simp [h])).trans ?_
  rw [← coolingEvents_state (s := (s.modBound c (Charge.mark .aborted)).intoCooling c sch.coolTemp) .abort sch.coolTime
    (intoCooling_state _ c _)]
  simp only [hsch]
  rfl

theorem releaseOwner_outOfRange (h : 4 ≤ b.toNat) : releaseOwner (b :: rest) s = refuse .outOfRange s := by
  rw [releaseOwner, withChamber_outside h]

theorem releasesTo_eq_none {st : ChamberState} : st.releasesTo = none ↔ st ∉ [ChamberState.loaded, .complete] := by
  cases st <;> simp [ChamberState.releasesTo]

theorem releaseOwner_wrongState (hb : b.toNat = c.val) (h : (s.chamber c).state.releasesTo = none) :
    releaseOwner (b :: rest) s = refuse .wrongState s := by
  rw [releaseOwner, withChamber_inside hb]
  simp only [h]

theorem releaseOwner_taken {k : Fin 8} {ch : Charge} {st : ChargeState} (hb : b.toNat = c.val)
    (h : (s.chamber c).state.releasesTo = some st) (hbound : s.bound c = some (k, ch)) :
    releaseOwner (b :: rest) s = took (s.unbind c k st) (u16 ch.id ++ u8 st.code) := by
  rw [releaseOwner, withChamber_inside hb]
  simp only [h, hbound]

/-- Settles O28: each owner's tests in order, and the changes through a whole binding. -/
theorem abortAndRelease : Obligations.AbortAndRelease := by
  intro tag b rest s ht abort release
  refine ⟨fun h => ⟨?_, ?_⟩, fun c hb => ⟨fun hx => ?_, fun hx => ?_,
    fun k ch hk hch => ⟨fun sch hx hsch => ?_, fun st hst => ?_⟩⟩⟩
  · exact request_refused ht rfl (abortOwner_outOfRange h)
  · exact request_refused ht rfl (releaseOwner_outOfRange h)
  · exact request_refused ht rfl (abortOwner_wrongState hb (Bool.eq_false_iff.2 (mt inRun_iff.1 hx)))
  · exact request_refused ht rfl (releaseOwner_wrongState hb (releasesTo_eq_none.2 hx))
  · refine (request_taken ht rfl (abortOwner_taken hb (inRun_iff.2 hx) (scheduleAt_of_links hk hch hsch))).trans ?_
    rw [State.abortRun, modBound_eq_set _ hk hch]
    rfl
  · have hto : (s.chamber c).state.releasesTo = some st := by
      obtain ⟨hx, rfl⟩ | ⟨hx, rfl⟩ := hst <;> rw [hx] <;> rfl
    refine (request_taken ht rfl (releaseOwner_taken hb hto (bound_eq_some.2 ⟨hk, hch⟩))).trans ?_
    rw [State.unbind, modCharge_eq_set _ hch]
    rfl

/-! ### START -/

theorem startOwner_outOfRange {origin : Port} (h : 4 ≤ b.toNat) :
    startOwner origin (b :: rest) s = refuse .outOfRange s := by
  rw [startOwner, withChamber_outside h]

theorem startOwner_wrongState {origin : Port} (hb : b.toNat = c.val) (hx : (s.chamber c).state ≠ .loaded) :
    startOwner origin (b :: rest) s = refuse .wrongState s := by
  rw [startOwner, withChamber_inside hb]
  exact if_pos (bne_iff_ne.2 hx)

theorem startOwner_doorOpen {origin : Port} (hb : b.toNat = c.val) (hx : (s.chamber c).state = .loaded)
    (hd : (s.monitor c).door = .opened) : startOwner origin (b :: rest) s = refuse .doorOpen s := by
  rw [startOwner, withChamber_inside hb]
  exact (if_neg (by simp [hx])).trans (if_pos (beq_iff_eq.2 hd))

/-- A START taken (R65): the statistics are computed, and the run begins at the entry step. -/
theorem startOwner_taken {origin : Port} {sch : Schedule} {t : Nat} {st : Step} {v : State} (hb : b.toNat = c.val)
    (hx : (s.chamber c).state = .loaded) (hd : (s.monitor c).door = .closed)
    (hsch : (s.bound c).bind (fun (_, ch) => s.scheduleOf ch) = some sch)
    (ht : t = entryStep sch.steps ((s.computeStats c).chamber c).latest) (hst : sch.steps[t]? = some st)
    (hv : v = (s.computeStats c).beginRun c origin t st) :
    startOwner origin (b :: rest) s =
      took v (u8 t ++ u8 st.phase.code ++ u16 (v.chamber c).drySetpoint ++ u16 (v.chamber c).wetSetpoint) := by
  rw [startOwner, withChamber_inside hb]
  refine (if_neg (by simp [hx])).trans ((if_neg (by simp [hd])).trans ?_)
  subst ht hv
  simp only [hsch, hst]

theorem computeStats_eq {bank : ProbeBank} (hbank : bank = (s.bank c).computed (s.chamber c).settings) :
    s.computeStats c = (s.setBank c bank).setChamber c { s.chamber c with latest := bank.stats } := by
  rw [hbank]
  rfl

theorem startSetpoint_eq (d : DryBulb) (st : Step) : startSetpoint d st =
    match d.trust with
    | .good t => max 200 (min 1200 t)
    | .new | .fault _ | .stale _ => st.dryBulb := by
  unfold startSetpoint
  cases d.trust <;> rfl

/-- The run a START begins through a whole binding (R13, R67). -/
theorem beginRun_eq {origin : Port} {k : Fin 8} {ch : Charge} {t dry : Nat} {st : Step} {stats : Stats}
    (hk : (s.chamber c).chargeSlot = some k) (hch : s.charge k = some ch) (hstats : stats = (s.chamber c).latest)
    (hdry : dry = startSetpoint (s.bank c).dryBulb st) :
    s.beginRun c origin t st = ((s.setCharge k (some { ch with
        state := .inKiln, startTime := some s.clock.seconds, lastStats := some stats
        marks := if stats.values = none then Mark.entryBlind.join ch.marks else ch.marks })).setChamber c { s.chamber c with
      state := .running, stepIndex := some t, drySetpoint := dry, wetSetpoint := dry - st.depression, dwell := 0
      rampAcc := 0, invalidCount := 0
      countdown := some ⟨(s.chamber c).settings.interval, 0, (s.chamber c).settings.interval⟩ }).offer c (.start origin) := by
  subst hstats hdry
  rw [State.beginRun, modBound_eq_set _ hk hch]
  cases (s.chamber c).latest.values <;> rfl

/-- Settles O24: each test of R65 decides its branch of the owner; a START taken is the statistics and then the run. -/
theorem startAnswers : Obligations.StartAnswers := by
  intro tag b rest s ht run
  refine ⟨fun h => request_refused ht rfl (startOwner_outOfRange h), fun c hb => ⟨fun hx => ?_, fun hx hd => ?_, ?_⟩⟩
  · exact request_refused ht rfl (startOwner_wrongState hb hx)
  · exact request_refused ht rfl (startOwner_doorOpen hb hx hd)
  · intro k ch sch bank st t dry hx hd hk hch hsch hbank htt hst hdry
    have hu := computeStats_eq hbank
    have hx' : (s.computeStats c).chamber c = { s.chamber c with latest := bank.stats } := by
      rw [hu, State.chamber_setChamber_same]
    have hbank' : (s.computeStats c).bank c = bank := by
      rw [hu, State.setChamber_bank, State.bank_setBank_same]
    have hlatest : bank.stats = ((s.computeStats c).chamber c).latest := by rw [hx']
    have hdry' : dry = startSetpoint ((s.computeStats c).bank c).dryBulb st := by
      rw [hbank']
      exact hdry.trans (startSetpoint_eq bank.dryBulb st).symm
    have hv := beginRun_eq (origin := .kiln) (t := t) (s := s.computeStats c) (by rw [hx']; exact hk) hch hlatest hdry'
    have htaken := startOwner_taken (origin := .kiln) (rest := rest) hb hx hd (scheduleAt_of_links hk hch hsch)
      (hlatest ▸ htt) hst hv.symm
    refine (request_taken ht rfl htaken).trans ?_
    rw [State.offer_chamber, State.chamber_setChamber_same, hx', hu]
    simp only [State.setChamber, State.setCharge, State.setBank, Vector.set_set]
    rfl

end

end Sys2Proof.Machine
end

-- ==== Proofs: the settings ====
section
/-! Chapters 4 and 7: CHAMBER-SET and PACK-PLAN, which check their values one by one and load them together. -/

namespace Sys2Proof.Machine

/-! ### The codes -/

theorem exists_debounceOfCode {n : Nat} (h : n ≤ 3) : ∃ d, debounceOfCode n = some d := by
  interval_cases n <;> exact ⟨_, rfl⟩

theorem debounceOfCode_eq_none {n : Nat} (h : 3 < n) : debounceOfCode n = none :=
  match n, h with
  | _ + 4, _ => rfl

theorem exists_ringModeOfCode {n : Nat} (h : n ≤ 1) : ∃ m, ringModeOfCode n = some m := by
  interval_cases n <;> exact ⟨_, rfl⟩

theorem ringModeOfCode_eq_none {n : Nat} (h : 1 < n) : ringModeOfCode n = none :=
  match n, h with
  | _ + 2, _ => rfl

theorem ringPolicyOfCode_eq_none {n : Nat} (h : 1 < n) : ringPolicyOfCode n = none :=
  match n, h with
  | _ + 2, _ => rfl

theorem boolOfCode_of_le {n : Nat} (h : n ≤ 1) : boolOfCode n = some (decide (n = 1)) := by
  interval_cases n <;> rfl

theorem boolOfCode_eq_none {n : Nat} (h : 1 < n) : boolOfCode n = none :=
  match n, h with
  | _ + 2, _ => rfl

/-! ### The range test -/

theorem rangeTest_fails {lo n hi : Nat} (h : ¬(lo ≤ n ∧ n ≤ hi)) : (!(decide (lo ≤ n) && decide (n ≤ hi))) = true := by
  simp only [← Bool.decide_and, h, decide_false, Bool.not_false]

theorem rangeTest_passes {lo n hi : Nat} (h : lo ≤ n ∧ n ≤ hi) : ¬(!(decide (lo ≤ n) && decide (n ≤ hi))) = true := by
  simp [h]

/-! ### CHAMBER-SET -/

section
variable {interval minProbes jump doorLimit debounce mode enables policy : Nat}

/-- The ranges of R59, by the index of the setting. -/
def SettingInRange (interval minProbes jump doorLimit debounce mode enables policy : Nat) : Nat → Prop
  | 0 => 60 ≤ interval ∧ interval ≤ 3600
  | 1 => 1 ≤ minProbes ∧ minProbes ≤ 16
  | 2 => 10 ≤ jump ∧ jump ≤ 200
  | 3 => 1 ≤ doorLimit ∧ doorLimit ≤ 240
  | 4 => debounce ≤ 3
  | 5 => mode ≤ 1
  | 6 => enables < 32
  | 7 => policy ≤ 1
  | _ => True

/-- With the four numbers in range, the codes decide. -/
theorem checkSettings_of_numbers
    (h : ∀ m < 4, SettingInRange interval minProbes jump doorLimit debounce mode enables policy m) :
    checkSettings interval minProbes jump doorLimit debounce mode enables policy =
      match debounceOfCode debounce with
      | none => .error 4
      | some db =>
        match ringModeOfCode mode with
        | none => .error 5
        | some md =>
          if 32 ≤ enables then .error 6
          else
            match ringPolicyOfCode policy with
            | none => .error 7
            | some pol => .ok ⟨interval, minProbes, jump, doorLimit, db, md, BitVec.ofNat 5 enables, pol⟩ := by
  have h0 : 60 ≤ interval ∧ interval ≤ 3600 := h 0 (by decide)
  have h1 : 1 ≤ minProbes ∧ minProbes ≤ 16 := h 1 (by decide)
  have h2 : 10 ≤ jump ∧ jump ≤ 200 := h 2 (by decide)
  have h3 : 1 ≤ doorLimit ∧ doorLimit ≤ 240 := h 3 (by decide)
  exact (if_neg (rangeTest_passes h0)).trans <| (if_neg (rangeTest_passes h1)).trans <| (if_neg (rangeTest_passes h2)).trans <|
    if_neg (rangeTest_passes h3)

theorem checkSettings_error {n : Nat}
    (hn : ¬SettingInRange interval minProbes jump doorLimit debounce mode enables policy n)
    (hlt : ∀ m < n, SettingInRange interval minProbes jump doorLimit debounce mode enables policy m) :
    checkSettings interval minProbes jump doorLimit debounce mode enables policy = .error n := by
  match n with
  | 0 => exact if_pos (rangeTest_fails hn)
  | 1 => exact (if_neg (rangeTest_passes (hlt 0 (by decide)))).trans <| if_pos (rangeTest_fails hn)
  | 2 =>
    exact (if_neg (rangeTest_passes (hlt 0 (by decide)))).trans <| (if_neg (rangeTest_passes (hlt 1 (by decide)))).trans <|
      if_pos (rangeTest_fails hn)
  | 3 =>
    exact (if_neg (rangeTest_passes (hlt 0 (by decide)))).trans <| (if_neg (rangeTest_passes (hlt 1 (by decide)))).trans <|
      (if_neg (rangeTest_passes (hlt 2 (by decide)))).trans <| if_pos (rangeTest_fails hn)
  | 4 =>
    rw [checkSettings_of_numbers hlt, debounceOfCode_eq_none (Nat.lt_of_not_le hn)]
  | 5 =>
    obtain ⟨db, hdb⟩ := exists_debounceOfCode (hlt 4 (by decide))
    rw [checkSettings_of_numbers fun m hm => hlt m (by omega), hdb, ringModeOfCode_eq_none (Nat.lt_of_not_le hn)]
  | 6 =>
    obtain ⟨db, hdb⟩ := exists_debounceOfCode (hlt 4 (by decide))
    obtain ⟨md, hmd⟩ := exists_ringModeOfCode (hlt 5 (by decide))
    rw [checkSettings_of_numbers fun m hm => hlt m (by omega), hdb, hmd]
    exact if_pos (Nat.le_of_not_lt hn)
  | 7 =>
    obtain ⟨db, hdb⟩ := exists_debounceOfCode (hlt 4 (by decide))
    obtain ⟨md, hmd⟩ := exists_ringModeOfCode (hlt 5 (by decide))
    have h6 : enables < 32 := hlt 6 (by decide)
    rw [checkSettings_of_numbers fun m hm => hlt m (by omega), hdb, hmd, ringPolicyOfCode_eq_none (Nat.lt_of_not_le hn)]
    exact if_neg (Nat.not_le.2 h6)
  | _ + 8 => exact absurd trivial hn

theorem checkSettings_ok {db : DebounceSetting} {md : RingMode} {pol : RingPolicy}
    (h : ∀ n, SettingInRange interval minProbes jump doorLimit debounce mode enables policy n)
    (hdb : debounceOfCode debounce = some db) (hmd : ringModeOfCode mode = some md) (hpol : ringPolicyOfCode policy = some pol) :
    checkSettings interval minProbes jump doorLimit debounce mode enables policy =
      .ok ⟨interval, minProbes, jump, doorLimit, db, md, BitVec.ofNat 5 enables, pol⟩ := by
  have h6 : enables < 32 := h 6
  rw [checkSettings_of_numbers fun m _ => h m, hdb, hmd, hpol]
  exact if_neg (Nat.not_le.2 h6)

end

section
variable {s : State} {b i1 i0 mp j1 j0 d1 d0 db md en pol : Byte} {rest : List Byte}

theorem chamberSetOwner_outOfRange (h : 4 ≤ b.toNat) :
    chamberSetOwner (b :: i1 :: i0 :: mp :: j1 :: j0 :: d1 :: d0 :: db :: md :: en :: pol :: rest) s =
      refuse .outOfRange s := by
  rw [chamberSetOwner, withChamber_outside h]

theorem chamberSetOwner_refused {c : ChamberNo} {n : Nat} (hb : b.toNat = c.val)
    (h : checkSettings (nat16 i1 i0) mp.toNat (nat16 j1 j0) (nat16 d1 d0) db.toNat md.toNat en.toNat pol.toNat = .error n) :
    chamberSetOwner (b :: i1 :: i0 :: mp :: j1 :: j0 :: d1 :: d0 :: db :: md :: en :: pol :: rest) s =
      refuseWith .outOfRange (u8 n) s := by
  rw [chamberSetOwner, withChamber_inside hb, h]

theorem chamberSetOwner_taken {c : ChamberNo} {x : Settings} (hb : b.toNat = c.val)
    (h : checkSettings (nat16 i1 i0) mp.toNat (nat16 j1 j0) (nat16 d1 d0) db.toNat md.toNat en.toNat pol.toNat = .ok x) :
    chamberSetOwner (b :: i1 :: i0 :: mp :: j1 :: j0 :: d1 :: d0 :: db :: md :: en :: pol :: rest) s =
      took (s.setChamber c { s.chamber c with settings := x }) [b] := by
  rw [chamberSetOwner, withChamber_inside hb, h, u8_val_of_toNat hb]
  rfl

end

/-! ### PACK-PLAN -/

section
variable {thickness width target minLength nominal idle silence : Nat}

/-- The ranges of R122, by the index of the field. -/
def PlanInRange (thickness width target minLength nominal idle silence : Nat) : Nat → Prop
  | 0 => 10 ≤ thickness ∧ thickness ≤ 100
  | 1 => 50 ≤ width ∧ width ≤ 300
  | 2 => 10 ≤ target ∧ target ≤ 500
  | 3 => 60 ≤ minLength ∧ minLength ≤ 600
  | 4 => 60 ≤ nominal ∧ nominal ≤ 900
  | 5 => idle ≤ 1
  | 6 => 10 ≤ silence ∧ silence ≤ 3600
  | _ => True

/-- With the five lengths and numbers in range, the close-on-idle code and the silence decide. -/
theorem checkPlan_of_numbers (h : ∀ m < 5, PlanInRange thickness width target minLength nominal idle silence m) :
    checkPlan thickness width target minLength nominal idle silence =
      match boolOfCode idle with
      | none => .error 5
      | some b =>
        if !(10 ≤ silence && silence ≤ 3600) then .error 6
        else .ok ⟨thickness, width, target, minLength, nominal, b, silence⟩ := by
  have h0 : 10 ≤ thickness ∧ thickness ≤ 100 := h 0 (by decide)
  have h1 : 50 ≤ width ∧ width ≤ 300 := h 1 (by decide)
  have h2 : 10 ≤ target ∧ target ≤ 500 := h 2 (by decide)
  have h3 : 60 ≤ minLength ∧ minLength ≤ 600 := h 3 (by decide)
  have h4 : 60 ≤ nominal ∧ nominal ≤ 900 := h 4 (by decide)
  exact (if_neg (rangeTest_passes h0)).trans <| (if_neg (rangeTest_passes h1)).trans <| (if_neg (rangeTest_passes h2)).trans <|
    (if_neg (rangeTest_passes h3)).trans <| if_neg (rangeTest_passes h4)

theorem checkPlan_error {n : Nat} (hn : ¬PlanInRange thickness width target minLength nominal idle silence n)
    (hlt : ∀ m < n, PlanInRange thickness width target minLength nominal idle silence m) :
    checkPlan thickness width target minLength nominal idle silence = .error n := by
  match n with
  | 0 => exact if_pos (rangeTest_fails hn)
  | 1 => exact (if_neg (rangeTest_passes (hlt 0 (by decide)))).trans <| if_pos (rangeTest_fails hn)
  | 2 =>
    exact (if_neg (rangeTest_passes (hlt 0 (by decide)))).trans <| (if_neg (rangeTest_passes (hlt 1 (by decide)))).trans <|
      if_pos (rangeTest_fails hn)
  | 3 =>
    exact (if_neg (rangeTest_passes (hlt 0 (by decide)))).trans <| (if_neg (rangeTest_passes (hlt 1 (by decide)))).trans <|
      (if_neg (rangeTest_passes (hlt 2 (by decide)))).trans <| if_pos (rangeTest_fails hn)
  | 4 =>
    exact (if_neg (rangeTest_passes (hlt 0 (by decide)))).trans <| (if_neg (rangeTest_passes (hlt 1 (by decide)))).trans <|
      (if_neg (rangeTest_passes (hlt 2 (by decide)))).trans <| (if_neg (rangeTest_passes (hlt 3 (by decide)))).trans <|
      if_pos (rangeTest_fails hn)
  | 5 => rw [checkPlan_of_numbers hlt, boolOfCode_eq_none (Nat.lt_of_not_le hn)]
  | 6 =>
    have hsilence : ¬(10 ≤ silence ∧ silence ≤ 3600) := hn
    rw [checkPlan_of_numbers fun m hm => hlt m (by omega), boolOfCode_of_le (hlt 5 (by decide))]
    exact if_pos (rangeTest_fails hsilence)
  | _ + 7 => exact absurd trivial hn

theorem checkPlan_ok (h : ∀ n, PlanInRange thickness width target minLength nominal idle silence n) :
    checkPlan thickness width target minLength nominal idle silence =
      .ok ⟨thickness, width, target, minLength, nominal, decide (idle = 1), silence⟩ := by
  have hsilence : 10 ≤ silence ∧ silence ≤ 3600 := h 6
  rw [checkPlan_of_numbers fun m _ => h m, boolOfCode_of_le (h 5)]
  exact if_neg (rangeTest_passes hsilence)

end

section
variable {s : State} {th w1 w0 t1 t0 m1 m0 n1 n0 idle s1 s0 : Byte} {rest : List Byte}

theorem packPlanOwner_refused {n : Nat}
    (h : checkPlan th.toNat (nat16 w1 w0) (nat16 t1 t0) (nat16 m1 m0) (nat16 n1 n0) idle.toNat (nat16 s1 s0) = .error n) :
    packPlanOwner (th :: w1 :: w0 :: t1 :: t0 :: m1 :: m0 :: n1 :: n0 :: idle :: s1 :: s0 :: rest) s =
      refuseWith .outOfRange (u8 n) s := by
  rw [packPlanOwner, h]

theorem packPlanOwner_taken {plan : PackPlan}
    (h : checkPlan th.toNat (nat16 w1 w0) (nat16 t1 t0) (nat16 m1 m0) (nat16 n1 n0) idle.toNat (nat16 s1 s0) = .ok plan) :
    packPlanOwner (th :: w1 :: w0 :: t1 :: t0 :: m1 :: m0 :: n1 :: n0 :: idle :: s1 :: s0 :: rest) s =
      took { s with plan := plan } [] := by
  rw [packPlanOwner, h]

end

/-- Settles O29: the first value out of range is the error of the check, and with none its result is every setting together. -/
theorem settingsRequests : Obligations.SettingsRequests := by
  refine ⟨?_, ?_⟩
  · intro tag b i1 i0 mp j1 j0 d1 d0 db md en pol rest s ht run inRange
    refine ⟨fun h => request_refused ht rfl (chamberSetOwner_outOfRange h), fun c hb => ⟨fun n hn hlt => ?_, ?_⟩⟩
    · exact request_taken ht rfl (chamberSetOwner_refused hb (checkSettings_error hn hlt))
    · intro debounce mode policy hall hdb hmd hpol
      exact request_taken ht rfl (chamberSetOwner_taken hb (checkSettings_ok hall hdb hmd hpol))
  · intro tag th w1 w0 t1 t0 m1 m0 n1 n0 idle s1 s0 rest s ht run inRange
    refine ⟨fun n hn hlt => request_taken ht rfl (packPlanOwner_refused (checkPlan_error hn hlt)), fun hall => ?_⟩
    have hidle : decide (idle = 1#8) = decide (idle.toNat = 1) := by simp [← BitVec.toNat_inj]
    rw [hidle]
    exact request_taken ht rfl (packPlanOwner_taken (checkPlan_ok hall))

end Sys2Proof.Machine
end

-- ==== Proofs: the evaluation instant ====
section
/-! Chapter 4, R71 to R84: what each stage of an instant makes of the chamber, its probe records and its charge, and from that the
whole instants. -/

namespace Sys2Proof.Machine

/-! ### What an instant changes -/

/-- The state `s` with the records of chamber `c` replaced: its probes, the charge in slot `k` and the chamber. Apart from notices
and events the stages of an instant lead from one such state to the next. -/
def State.withRecords (s : State) (c : ChamberNo) (k : Fin 8) (b : ProbeBank) (ch : Charge) (x : Chamber) : State :=
  ((s.setBank c b).setCharge k (some ch)).setChamber c x

section
variable {s : State} {c : ChamberNo} {k : Fin 8} {b : ProbeBank} {ch : Charge} {x : Chamber}

@[simp] theorem withRecords_chamber : (s.withRecords c k b ch x).chamber c = x :=
  State.chamber_setChamber_same _ c x

@[simp] theorem withRecords_charge : (s.withRecords c k b ch x).charge k = some ch :=
  (State.setChamber_charge _ c x k).trans (State.charge_setCharge_same _ k (some ch))

@[simp] theorem withRecords_setChamber (y : Chamber) :
    (s.withRecords c k b ch x).setChamber c y = s.withRecords c k b ch y :=
  setChamber_setChamber _ c x y

@[simp] theorem withRecords_modChamber (f : Chamber → Chamber) :
    (s.withRecords c k b ch x).modChamber c f = s.withRecords c k b ch (f x) := by
  rw [State.modChamber, withRecords_chamber, withRecords_setChamber]

theorem withRecords_setCharge (ch' : Charge) :
    (s.withRecords c k b ch x).setCharge k (some ch') = s.withRecords c k b ch' x := by
  simp only [State.withRecords, State.setChamber, State.setCharge, Vector.set_set]

theorem withRecords_modBound (f : Charge → Charge) (hk : x.chargeSlot = some k) :
    (s.withRecords c k b ch x).modBound c f = s.withRecords c k b (f ch) x := by
  rw [modBound_eq_set f (by rw [withRecords_chamber]; exact hk) withRecords_charge, withRecords_setCharge]

theorem modChamber_congr {f g : Chamber → Chamber} (h : f (s.chamber c) = g (s.chamber c)) :
    s.modChamber c f = s.modChamber c g := by
  rw [State.modChamber, h, State.modChamber]

/-- An event records no more of the chamber than its state, step and statistics, under its settings (R95). -/
theorem offer_replaced {ev : Event} {n : Notice} {y z : Chamber} (hsettings : x.settings = y.settings)
    (hstate : x.state = y.state) (hstep : x.stepIndex = y.stepIndex) (hlatest : x.latest = y.latest) :
    (((s.setChamber c x).raise n).offer c ev).setChamber c z = (((s.setChamber c y).raise n).offer c ev).setChamber c z := by
  have hx : ((s.setChamber c x).raise n).chamber c = x := State.chamber_setChamber_same s c x
  have hy : ((s.setChamber c y).raise n).chamber c = y := State.chamber_setChamber_same s c y
  have hentry : ((s.setChamber c x).raise n).entryOf c ev = ((s.setChamber c y).raise n).entryOf c ev := by
    funext seq
    simp only [State.entryOf, hx, hy, hstate, hstep, hlatest]
    rfl
  rw [State.offer, State.offer, hx, hy, hentry, hsettings]
  simp only [State.setChamber, State.raise, Vector.set_set]
  rfl

/-! ### Statistics and invalid count -/

theorem statsStage_eq (hk : (s.chamber c).chargeSlot = some k) (hch : s.charge k = some ch)
    (hb : b = (s.bank c).computed (s.chamber c).settings) :
    s.statsStage c = s.withRecords c k b { ch with lastStats := some b.stats } { s.chamber c with latest := b.stats } := by
  have hu := computeStats_eq hb
  have hx : (s.computeStats c).chamber c = { s.chamber c with latest := b.stats } := by
    rw [hu, State.chamber_setChamber_same]
  rw [State.statsStage, modBound_eq_set (s := s.computeStats c) _ (by rw [hx]; exact hk) hch, hx, hu]
  rfl

theorem blindHold_eq (hk : x.chargeSlot = some k) : (s.withRecords c k b ch x).blindHold c =
    (((s.withRecords c k b (ch.mark .lowProbes) { x with state := .held }).raise .probe).raise .held).offer c
      (.autoHold .lowProbes) := by
  rw [State.blindHold, withRecords_modChamber, withRecords_modBound (x := { x with state := .held }) _ hk]

/-- The invalid count after statistics `stats` (R76). -/
def Chamber.nextCount (stats : Stats) (x : Chamber) : Nat :=
  if stats.values = none then min (x.invalidCount + 1) 65535 else 0

/-- The chamber record after the first two stages below the blind limit (R76). -/
def Chamber.counted (stats : Stats) (x : Chamber) : Chamber := { x with latest := stats, invalidCount := x.nextCount stats }

@[simp] theorem counted_state (stats : Stats) (x : Chamber) : (x.counted stats).state = x.state := rfl
@[simp] theorem counted_queue (stats : Stats) (x : Chamber) : (x.counted stats).queue = x.queue := rfl
@[simp] theorem counted_settings (stats : Stats) (x : Chamber) : (x.counted stats).settings = x.settings := rfl

theorem countStage_eq (s : State) (c : ChamberNo) : s.countStage c =
    let t := s.setChamber c { s.chamber c with invalidCount := (s.chamber c).nextCount (s.chamber c).latest }
    if 6 ≤ (s.chamber c).nextCount (s.chamber c).latest ∧ (s.chamber c).state = .running then t.blindHold c else t := by
  simp only [State.countStage, Chamber.nextCount, Option.isNone_iff_eq_none, Bool.and_eq_true, decide_eq_true_eq, beq_iff_eq]
  rfl

/-- The first two stages (R76) in a chamber that is not RUNNING, or below the blind limit. -/
theorem counted_eq (hk : (s.chamber c).chargeSlot = some k) (hch : s.charge k = some ch)
    (hb : b = (s.bank c).computed (s.chamber c).settings)
    (h : (s.chamber c).state = .running → (s.chamber c).nextCount b.stats < 6) : (s.statsStage c).countStage c =
      s.withRecords c k b { ch with lastStats := some b.stats } ((s.chamber c).counted b.stats) := by
  rw [countStage_eq, statsStage_eq hk hch hb, withRecords_chamber, withRecords_setChamber]
  exact if_neg fun ⟨hlimit, hrun⟩ => Nat.not_le.2 (h hrun) hlimit

/-- The first two stages (R76) in a RUNNING chamber at the blind limit: the hold a part makes itself. -/
theorem counted_blind (hk : (s.chamber c).chargeSlot = some k) (hch : s.charge k = some ch)
    (hb : b = (s.bank c).computed (s.chamber c).settings) (hrun : (s.chamber c).state = .running)
    (h : 6 ≤ (s.chamber c).nextCount b.stats) : (s.statsStage c).countStage c =
      (((s.withRecords c k b (Charge.mark .lowProbes { ch with lastStats := some b.stats })
        { (s.chamber c).counted b.stats with state := .held }).raise .probe).raise .held).offer c (.autoHold .lowProbes) := by
  rw [countStage_eq, statsStage_eq hk hch hb, withRecords_chamber, withRecords_setChamber]
  exact (if_pos ⟨h, hrun⟩).trans (blindHold_eq hk)

/-- The chamber after the first two stages: its queue and settings stand, and a RUNNING chamber may be HELD. -/
theorem counted_chamber (s : State) (c : ChamberNo) {u : State} (hu : u = (s.statsStage c).countStage c) :
    (u.chamber c).queue = (s.chamber c).queue ∧ (u.chamber c).settings = (s.chamber c).settings ∧
      ((u.chamber c).state = (s.chamber c).state ∨ (u.chamber c).state = .held) := by
  have hstats : (s.statsStage c).chamber c =
      { s.chamber c with latest := ((s.bank c).computed (s.chamber c).settings).stats } :=
    State.chamber_modChamber_same (s.setBank c ((s.bank c).computed (s.chamber c).settings)) c
      fun x => { x with latest := ((s.bank c).computed (s.chamber c).settings).stats }
  subst hu
  rw [countStage_eq]
  dsimp only
  split
  · have hblind : ∀ t : State, (t.blindHold c).chamber c = { t.chamber c with state := .held } := fun t =>
      State.chamber_modChamber_same t c fun x => { x with state := .held }
    rw [hblind, State.chamber_setChamber_same, hstats]
    exact ⟨rfl, rfl, .inr rfl⟩
  · rw [State.chamber_setChamber_same, hstats]
    exact ⟨rfl, rfl, .inl rfl⟩

end

end Sys2Proof.Machine
end

-- ==== Proofs: whole evaluation instants ====
section
/-! Chapter 4, R71 to R84: the instants of a chamber in DOOR_HOLD, HELD, COOLING and RUNNING, put together from their stages. -/

namespace Sys2Proof.Machine

/-! ### An instant that is due -/

/-- An instant that is due in a chamber whose links lead to their records: what it reads through them is `v`. -/
structure State.InstantDue (s : State) (c : ChamberNo) (loaded : Nat) (k : Fin 8) (ch : Charge) (v : RunView) : Prop where
  powered : s.power.main = true
  countdown : ∃ frac, (s.chamber c).countdown = some ⟨0, frac, loaded⟩
  slot : (s.chamber c).chargeSlot = some k
  charge : s.charge k = some ch
  schedule : s.schedules[ch.schedule] = some v.sch
  index : (s.chamber c).stepIndex = some v.index
  step : v.sch.steps[v.index]? = some v.step

section
variable {s u w : State} {c : ChamberNo} {loaded : Nat} {k : Fin 8} {ch : Charge} {v : RunView}

theorem State.InstantDue.runView (h : s.InstantDue c loaded k ch v) : s.runView c = some v := by
  unfold State.runView
  rw [scheduleAt_of_links h.slot h.charge h.schedule, h.index]
  simp only [h.step, Option.map_some]

theorem exec_evaluationInstant_idle (hp : s.power.main = true)
    (h : (s.chamber c).countdown = none ∨ ∃ d, (s.chamber c).countdown = some d ∧ d.seconds ≠ 0) :
    exec (.evaluationInstant c) s = .next s := by
  refine (if_pos hp).trans ?_
  obtain h | ⟨d, h, hd⟩ := h
  · simp only [h]
  · simp [h, hd]

theorem exec_evaluationInstant_due (h : s.InstantDue c loaded k ch v) (hcounts : (s.chamber c).state.counts = true) :
    exec (.evaluationInstant c) s = .next (s.evaluate c v loaded) := by
  obtain ⟨frac, hcd⟩ := h.countdown
  refine (if_pos h.powered).trans ?_
  simp only [hcd, hcounts, h.runView]
  rfl

/-! ### Command service and countdown -/

theorem commandStage_of_empty (hq : (u.chamber c).queue = []) : u.commandStage c v = u := by
  unfold State.commandStage
  simp only [hq]
  cases (u.chamber c).state <;> rfl

theorem commandStage_of_outside (hx : (u.chamber c).state ∉ [ChamberState.running, .held]) : u.commandStage c v = u := by
  unfold State.commandStage
  cases hst : (u.chamber c).state <;> simp_all

theorem commandStage_serves {cmd : RunCommand} {rest : List RunCommand}
    (hx : (u.chamber c).state ∈ [ChamberState.running, .held]) (hq : (u.chamber c).queue = cmd :: rest) :
    u.commandStage c v = (u.modChamber c fun y => { y with queue := rest }).carryOut c v cmd := by
  unfold State.commandStage
  dsimp only
  split
  case h_1 hq' | h_2 hq' =>
    obtain ⟨rfl, rfl⟩ := List.cons.inj (hq'.symm.trans hq)
    rfl
  case h_3 hrun hheld =>
    simp only [List.mem_cons, List.not_mem_nil, or_false] at hx
    exact hx.elim (fun h => absurd hq (hrun _ _ h)) fun h => absurd hq (hheld _ _ h)

theorem servesManual_of_empty {x : Chamber} (hq : x.queue = []) : x.servesManual = false := by
  simp [Chamber.servesManual, hq]

theorem servesManual_of_serves {x : Chamber} {cmd : RunCommand} {rest : List RunCommand}
    (hx : x.state ∈ [ChamberState.running, .held]) (hq : x.queue = cmd :: rest) :
    x.servesManual = decide (cmd ∈ [RunCommand.step, .skipPhase]) := by
  have hrun : (x.state == .running || x.state == .held) = true := by simpa using hx
  rw [Chamber.servesManual, hrun, hq]
  cases cmd <;> rfl

theorem countdownStage_of_complete (hx : (u.chamber c).state = .complete) : u.countdownStage c = u :=
  if_pos (beq_iff_eq.2 hx)

theorem countdownStage_loads {x : Settings} (hx : (u.chamber c).state ≠ .complete) (hset : (u.chamber c).settings = x) :
    u.countdownStage c = u.modChamber c fun y => { y with countdown := some ⟨x.interval, 0, x.interval⟩ } := by
  subst hset
  exact (if_neg (by simpa using hx)).trans (modChamber_congr rfl)

/-! ### The instant from its stages -/

theorem evaluate_without_run (hu : (s.statsStage c).countStage c = u) (hw : u.commandStage c v = w)
    (hcooling : (s.chamber c).state ≠ .cooling) (h : (w.chamber c).state ≠ .running ∨ (u.chamber c).servesManual = true) :
    s.evaluate c v loaded = w.countdownStage c := by
  have hrun : ¬((w.chamber c).state == .running && !(u.chamber c).servesManual) = true := by
    simpa [imp_iff_not_or] using h
  rw [State.evaluate, hu, hw, if_neg hrun, if_neg (by simpa using hcooling)]

theorem evaluate_with_run (hu : (s.statsStage c).countStage c = u) (hw : u.commandStage c v = w)
    (hcooling : (s.chamber c).state ≠ .cooling) (hrun : (w.chamber c).state = .running)
    (hmanual : (u.chamber c).servesManual = false) : s.evaluate c v loaded = (w.runStage c v loaded).countdownStage c := by
  rw [State.evaluate, hu, hw]
  simp [hrun, hmanual, hcooling]

theorem evaluate_cooling (hu : (s.statsStage c).countStage c = u) (hcooling : (s.chamber c).state = .cooling)
    (hstate : (u.chamber c).state = .cooling) :
    s.evaluate c v loaded = (u.coolingStage c v loaded).countdownStage c := by
  have hw : u.commandStage c v = u := commandStage_of_outside (by simp [hstate])
  rw [State.evaluate, hu, hw]
  simp [hstate, hcooling]

end

/-! ### Instants without a run stage -/

section
variable {s : State} {c : ChamberNo} {k : Fin 8} {b : ProbeBank} {ch : Charge} {x : Chamber}

/-- The completion of a chamber in COOLING (R84). -/
theorem complete_withRecords (hk : x.chargeSlot = some k) : (s.withRecords c k b ch x).complete c =
    ((s.withRecords c k b { ch with state := .dried, endTime := some s.clock.seconds }
      { x with state := .complete, countdown := none }).raise .done).offer c .complete := by
  rw [State.complete, withRecords_modBound _ hk, withRecords_modChamber]
  rfl

theorem coolingStage_withRecords {v : RunView} {loaded dwell : Nat} (hk : x.chargeSlot = some k)
    (hd : dwell = min (x.dwell + loaded) 4294967295) : (s.withRecords c k b ch x).coolingStage c v loaded =
      if v.sch.coolTime * 60 ≤ dwell then
        ((s.withRecords c k b { ch with state := .dried, endTime := some s.clock.seconds }
          { x with dwell := dwell, state := .complete, countdown := none }).raise .done).offer c .complete
      else s.withRecords c k b ch { x with dwell := dwell } := by
  subst hd
  rw [State.coolingStage, withRecords_modChamber, withRecords_chamber,
    complete_withRecords (x := { x with dwell := satAdd Config.maxCount x.dwell loaded }) hk]
  rfl

end

/-- Settles O30: no stage but the first two, the cooling stage and the countdown load acts. -/
theorem instantsWithoutRunStage : Obligations.InstantsWithoutRunStage := by
  intro c s hp
  refine ⟨exec_evaluationInstant_idle hp, ?_⟩
  intro loaded frac k ch sch t b x hcd hk hch hsch hidx hlt hb hx
  have hdue : s.InstantDue c loaded k ch ⟨sch, t, sch.steps[t]⟩ :=
    ⟨hp, ⟨frac, hcd⟩, hk, hch, hsch, hidx, List.getElem?_eq_getElem hlt⟩
  have counted : (s.chamber c).state ≠ .running → (s.statsStage c).countStage c =
      s.withRecords c k b { ch with lastStats := some b.stats } ((s.chamber c).counted b.stats) :=
    fun hrun => counted_eq hk hch hb fun h => absurd h hrun
  refine ⟨fun hstate => ?_, fun dwell hcool hdwell => ⟨fun hless => ?_, fun hdone => ?_⟩⟩
  · have hrun : (s.chamber c).state ≠ .running ∧ (s.chamber c).state ≠ .cooling ∧ (s.chamber c).state ≠ .complete ∧
        (s.chamber c).state.counts = true := by
      obtain h | ⟨h, -⟩ := hstate <;> rw [h] <;> decide
    obtain ⟨hrun, hcool, hcomplete, hcounts⟩ := hrun
    have hserved : ∀ u : State, (u.chamber c).state = (s.chamber c).state → (u.chamber c).queue = (s.chamber c).queue →
        u.commandStage c ⟨sch, t, sch.steps[t]⟩ = u := fun u hst hq => by
      obtain h | ⟨-, h⟩ := hstate
      · exact commandStage_of_outside (by simp [hst, h])
      · exact commandStage_of_empty (hq.trans h)
    rw [exec_evaluationInstant_due hdue hcounts,
      evaluate_without_run (counted hrun) (hserved _ (by simp) (by simp)) hcool (.inl (by simpa using hrun)),
      countdownStage_loads (x := (s.chamber c).settings) (by simpa using hcomplete) (by simp), withRecords_modChamber, hx]
    rfl
  all_goals
    have hrun : (s.chamber c).state ≠ .running := by rw [hcool]; decide
    rw [exec_evaluationInstant_due hdue (by rw [hcool]; rfl),
      evaluate_cooling (counted hrun) hcool (by simpa using hcool),
      coolingStage_withRecords (x := (s.chamber c).counted b.stats) hk hdwell]
  · rw [if_neg (Nat.not_le.2 hless),
      countdownStage_loads (x := (s.chamber c).settings) (by simp [hcool]) (by simp), withRecords_modChamber, hx]
    rfl
  · rw [if_pos hdone, countdownStage_of_complete (by simp), hx]
    rfl

end Sys2Proof.Machine
end

-- ==== Proofs: the run stage of an instant ====
section
/-! Chapter 4, R75 to R81: the run stage of a RUNNING chamber, and its instants with no command waiting. -/

namespace Sys2Proof.Machine

/-! ### The run stage -/

theorem advances_iff {st : Step} {dwell : Nat} {stats : Stats} :
    st.advances dwell stats = true ↔ st.minDwell * 60 ≤ dwell ∧
      (st.changeAt = 0 ∨ ∃ v, stats.values = some v ∧ st.basis.statistic v ≤ st.changeAt) := by
  cases h : stats.values <;> simp [Step.advances, h]

/-- The dwell a run stage or a cooling stage adds to (R79, R84). -/
def Chamber.dwelt (loaded : Nat) (x : Chamber) : Chamber := { x with dwell := min (x.dwell + loaded) 4294967295 }

section
variable {s : State} {c : ChamberNo} {v : RunView} {loaded : Nat}

theorem runStage_stays (h : ¬v.step.advances ((s.chamber c).dwelt loaded).dwell (s.chamber c).latest = true) :
    s.runStage c v loaded = (s.modChamber c (Chamber.dwelt loaded)).modChamber c (Chamber.ramped loaded v.step) := by
  unfold State.runStage
  dsimp only
  rw [State.chamber_modChamber_same]
  exact if_neg h

theorem runStage_advances {next : Step}
    (h : v.step.advances ((s.chamber c).dwelt loaded).dwell (s.chamber c).latest = true)
    (hnext : v.sch.steps[v.index + 1]? = some next) : s.runStage c v loaded =
      ((((s.modChamber c (Chamber.dwelt loaded)).stepChange c (v.index + 1) next).offer c (.step v.index)).modChamber c
        (Chamber.ramped loaded next)) := by
  unfold State.runStage
  dsimp only
  rw [State.chamber_modChamber_same, hnext]
  exact if_pos h

theorem runStage_cools (h : v.step.advances ((s.chamber c).dwelt loaded).dwell (s.chamber c).latest = true)
    (hnext : v.sch.steps[v.index + 1]? = none) : s.runStage c v loaded =
      ((s.modChamber c (Chamber.dwelt loaded)).intoCooling c v.sch.coolTemp).coolingEvents c .lastStep v.sch.coolTime := by
  unfold State.runStage
  dsimp only
  rw [State.chamber_modChamber_same, hnext]
  exact if_pos h

/-- The chamber record after a step change (R78). -/
def Chamber.stepped (i : Nat) (st : Step) (x : Chamber) : Chamber :=
  { x with stepIndex := some i, dwell := 0, rampAcc := 0, wetSetpoint := wetBulb x.drySetpoint st.depression }

theorem stepChange_withRecords {k : Fin 8} {b : ProbeBank} {ch : Charge} {x : Chamber} (i : Nat) (st : Step) :
    (s.withRecords c k b ch x).stepChange c i st = (s.withRecords c k b ch (x.stepped i st)).raise .step :=
  congrArg (State.raise .step) (withRecords_modChamber (Chamber.stepped i st))

@[simp] theorem stepped_dwelt (i : Nat) (st : Step) (x : Chamber) : (x.dwelt loaded).stepped i st = x.stepped i st := rfl

/-- A step change at an instant: the ramp of the new step acts on the chamber the STEP event has recorded. -/
theorem stepChange_ramped {k : Fin 8} {b : ProbeBank} {ch : Charge} {x : Chamber} {ev : Event} (i : Nat) (st : Step) :
    (((s.withRecords c k b ch x).stepChange c i st).offer c ev).modChamber c (Chamber.ramped loaded st) =
      (((s.withRecords c k b ch (x.stepped i st)).raise .step).offer c ev).setChamber c
        ((x.stepped i st).ramped loaded st) := by
  rw [stepChange_withRecords, State.modChamber, State.offer_chamber, State.raise_chamber, withRecords_chamber]

theorem modChamber_setChamber (x : Chamber) (f : Chamber → Chamber) :
    (s.setChamber c x).modChamber c f = s.setChamber c (f x) := by
  rw [State.modChamber, State.chamber_setChamber_same, setChamber_setChamber]

/-! ### The countdown load after an entry to COOLING -/

theorem coolingEvents_settings (s : State) (c : ChamberNo) (cause : CoolingCause) (coolTime : Nat) :
    ((s.coolingEvents c cause coolTime).chamber c).settings = (s.chamber c).settings := by
  have hevents : ((if cause = .abort then s.offer c (.cooling cause) else (s.offer c (.cooling cause)).raise .step).chamber
      c).settings = (s.chamber c).settings := by
    split <;> rfl
  unfold State.coolingEvents
  dsimp only
  split
  · rw [complete_chamber]
    exact hevents
  · exact hevents

theorem intoCooling_chamber (s : State) (c : ChamberNo) (coolTemp : Nat) :
    (s.intoCooling c coolTemp).chamber c = (s.chamber c).cooled coolTemp :=
  State.chamber_modChamber_same (s.modBound c fun ch => { ch with finalStats := some (s.chamber c).latest }) c
    (Chamber.cooled coolTemp)

/-- The countdown load of a chamber that entered COOLING: none when a cooling time of 0 completed it. -/
theorem countdownStage_coolingEvents {x : Settings} (cause : CoolingCause) (coolTime : Nat)
    (hstate : (s.chamber c).state = .cooling) (hset : (s.chamber c).settings = x) :
    (s.coolingEvents c cause coolTime).countdownStage c = if coolTime = 0 then s.coolingEvents c cause coolTime
      else (s.coolingEvents c cause coolTime).modChamber c fun y =>
        { y with countdown := some ⟨x.interval, 0, x.interval⟩ } := by
  have hs := coolingEvents_state cause coolTime hstate
  split
  case isTrue h => exact countdownStage_of_complete (by rw [hs, if_pos h])
  case isFalse h =>
    exact countdownStage_loads (by rw [hs, if_neg h]; decide) (by rw [coolingEvents_settings, hset])

end

/-! ### The instant of a RUNNING chamber -/

section
variable {s : State} {c : ChamberNo} {v : RunView} {loaded : Nat} {k : Fin 8} {b : ProbeBank} {ch : Charge} {x : Chamber}

/-- A RUNNING chamber below the blind limit and with no command waiting: the run stage follows the first two (R75). -/
theorem evaluate_running (hk : (s.chamber c).chargeSlot = some k) (hch : s.charge k = some ch)
    (hb : b = (s.bank c).computed (s.chamber c).settings) (hrun : (s.chamber c).state = .running)
    (hq : (s.chamber c).queue = []) (hless : (s.chamber c).nextCount b.stats < 6) :
    s.evaluate c v loaded = ((s.withRecords c k b { ch with lastStats := some b.stats }
      ((s.chamber c).counted b.stats)).runStage c v loaded).countdownStage c :=
  evaluate_with_run (counted_eq hk hch hb fun _ => hless) (commandStage_of_empty (by simpa using hq)) (by simp [hrun])
    (by simpa using hrun) (servesManual_of_empty (by simpa using hq))

/-- The run stage and the countdown load when the step stays (R79 to R81). -/
theorem runs_on (hrun : x.state = .running) (h : ¬v.step.advances (x.dwelt loaded).dwell x.latest = true) :
    ((s.withRecords c k b ch x).runStage c v loaded).countdownStage c =
      s.withRecords c k b ch ((x.dwelt loaded).ramped loaded v.step).loadCountdown := by
  rw [runStage_stays (by simpa using h), withRecords_modChamber, withRecords_modChamber,
    countdownStage_loads (by simp [Chamber.ramped, Chamber.dwelt, hrun]) rfl, withRecords_modChamber, withRecords_chamber]
  rfl

/-- The run stage and the countdown load when the chamber goes to its next step (R78 to R81). -/
theorem runs_to_next {next : Step} (hrun : x.state = .running)
    (h : v.step.advances (x.dwelt loaded).dwell x.latest = true) (hnext : v.sch.steps[v.index + 1]? = some next) :
    ((s.withRecords c k b ch x).runStage c v loaded).countdownStage c =
      (((s.withRecords c k b ch (x.stepped (v.index + 1) next)).raise .step).offer c (.step v.index)).setChamber c
        ((x.stepped (v.index + 1) next).ramped loaded next).loadCountdown := by
  rw [runStage_advances (by simpa using h) hnext, withRecords_modChamber, stepChange_ramped, stepped_dwelt,
    countdownStage_loads (by simp [Chamber.ramped, Chamber.stepped, hrun]) rfl, modChamber_setChamber,
    State.chamber_setChamber_same]
  rfl

/-- The run stage and the countdown load when the chamber goes past its last step (R78, R83). -/
theorem runs_into_cooling (h : v.step.advances (x.dwelt loaded).dwell x.latest = true)
    (hlast : v.sch.steps.length = v.index + 1) {t : State} (ht : t = State.coolingEvents c .lastStep v.sch.coolTime
      (State.intoCooling c v.sch.coolTemp (s.withRecords c k b ch (x.dwelt loaded)))) :
    ((s.withRecords c k b ch x).runStage c v loaded).countdownStage c = if v.sch.coolTime = 0 then t
      else t.modChamber c fun y => { y with countdown := some ⟨x.settings.interval, 0, x.settings.interval⟩ } := by
  rw [runStage_cools (by simpa using h) (List.getElem?_eq_none hlast.le), withRecords_modChamber, ht]
  exact countdownStage_coolingEvents _ _ (intoCooling_state _ c _) (by rw [intoCooling_chamber, withRecords_chamber]; rfl)

end

/-- Settles O31: the blind hold, or the run stage in its three outcomes, each with the countdown load. -/
theorem runningInstant : Obligations.RunningInstant := by
  intro c s loaded frac count dwell k ch sch t st b x u cd hp hrun hq hcd hk hch hsch hidx hst hb hcount hdwell
    hcdn hx hu advances
  have hdue : s.InstantDue c loaded k ch ⟨sch, t, st⟩ := ⟨hp, ⟨frac, hcd⟩, hk, hch, hsch, hidx, hst⟩
  have hnext : (s.chamber c).nextCount b.stats = count := hcount.symm
  have hx' : (s.chamber c).counted b.stats = x := by rw [hx, Chamber.counted, hnext]
  have hxrun : x.state = .running := by rw [hx]; exact hrun
  have hxdwelt : x.dwelt loaded = { x with dwell := dwell } := by rw [hdwell, Chamber.dwelt, hx]
  have hset : x.settings = (s.chamber c).settings := by rw [hx]
  have hadv : st.advances (x.dwelt loaded).dwell x.latest = true ↔ advances := by
    rw [hxdwelt, advances_iff, hx]
    rfl
  have below : count < 6 → s.evaluate c ⟨sch, t, st⟩ loaded =
      ((s.withRecords c k b { ch with lastStats := some b.stats } x).runStage c ⟨sch, t, st⟩ loaded).countdownStage c :=
    fun hless => hx' ▸ evaluate_running hk hch hb hrun hq (hnext ▸ hless)
  clear_value advances
  rw [exec_evaluationInstant_due hdue (by rw [hrun]; rfl), hcdn, ← hset]
  refine ⟨fun hblind => ?_, fun hless hstay m hm => ?_, fun hless hgo next m hn hm => ?_, fun hless hgo hlast v hv => ?_⟩
  · have hcounted := counted_blind hk hch hb hrun (by rw [hnext]; exact hblind)
    rw [hx'] at hcounted
    rw [evaluate_without_run hcounted (commandStage_of_empty (by simp [hx, hq])) (by simp [hrun]) (.inl (by simp)),
      countdownStage_loads (x := x.settings) (by simp) (by simp), hu]
    rfl
  · rw [below hless, runs_on (v := ⟨sch, t, st⟩) hxrun (mt hadv.1 hstay), hxdwelt, hm, hu]
    rfl
  · have hramped : ((x.stepped (t + 1) next).ramped loaded next).loadCountdown =
        { x with
          stepIndex := some (t + 1), dwell := 0, drySetpoint := m.1, rampAcc := m.2, wetSetpoint := m.1 - next.depression
          countdown := some ⟨x.settings.interval, 0, x.settings.interval⟩ } := by rw [hm]; rfl
    rw [below hless, runs_to_next (v := ⟨sch, t, st⟩) hxrun (hadv.2 hgo) hn, hramped, hu]
    exact congrArg Host.Outcome.next (offer_replaced (x := x.stepped (t + 1) next)
      (y := { x with stepIndex := some (t + 1), dwell := 0, rampAcc := 0 }) rfl rfl rfl rfl)
  · rw [hu, ← hxdwelt] at hv
    rw [below hless, runs_into_cooling (v := ⟨sch, t, st⟩) (hadv.2 hgo) hlast hv]

end Sys2Proof.Machine
end

-- ==== Proofs: the commands served at an instant ====
section
/-! Chapter 4, R71 to R74 and R77: what the command service makes of each run command. -/

namespace Sys2Proof.Machine

/-! ### The step SKIP-PHASE leads to -/

section
variable {phase : Phase} {t j : Nat} {steps : List Step}

theorem laterPhase_eq_some {next : Step} (hlt : t < j) (hj : steps[j]? = some next) (hnext : phase.code < next.phase.code)
    (hbetween : ∀ e between, t < e → e < j → steps[e]? = some between → between.phase.code ≤ phase.code) :
    laterPhase phase t steps = some (j, next) := by
  obtain ⟨hlen, hget⟩ := List.getElem?_eq_some_iff.1 hj
  have hfind : (steps.zipIdx.find? fun (st, i) => t < i && phase.code < st.phase.code) = some (next, j) := by
    refine List.find?_eq_some_iff_getElem.2 ⟨by simp [hlt, hnext], j, by simpa using hlen, by simp [hget], fun e he => ?_⟩
    have : e ≤ t ∨ steps[e].phase.code ≤ phase.code := (Nat.lt_or_ge t e).symm.imp_right fun hte =>
      hbetween e steps[e] hte he (List.getElem?_eq_getElem (he.trans hlen))
    simpa using this
  rw [laterPhase, hfind, Option.map_some]

theorem laterPhase_eq_none (h : ∀ j later, t < j → steps[j]? = some later → later.phase.code ≤ phase.code) :
    laterPhase phase t steps = none := by
  refine Option.map_eq_none_iff.2 (List.find?_eq_none.2 fun p hp => ?_)
  have := fun hlt => h p.2 p.1 hlt (List.mk_mem_zipIdx_iff_getElem?.1 hp)
  simpa using this

end

/-! ### The commands -/

section
variable {w : State} {c : ChamberNo} {v : RunView}

/-- The settings stand through the run stage, whatever it does. -/
theorem runStage_settings (loaded : Nat) : ((w.runStage c v loaded).chamber c).settings = (w.chamber c).settings := by
  by_cases h : v.step.advances ((w.chamber c).dwelt loaded).dwell (w.chamber c).latest = true
  · cases hnext : v.sch.steps[v.index + 1]? with
    | some next =>
      rw [runStage_advances h hnext]
      simp [State.stepChange, Chamber.ramped, Chamber.dwelt]
    | none =>
      rw [runStage_cools h hnext, coolingEvents_settings, intoCooling_chamber, State.chamber_modChamber_same]
      rfl
  · rw [runStage_stays h, State.chamber_modChamber_same, State.chamber_modChamber_same]
    rfl

theorem carryOut_hold_running (h : (w.chamber c).state = .running) : w.carryOut c v .hold =
    (w.modChamber c fun y => { y with state := .held }).offer c (.command .hold true) :=
  if_pos (beq_iff_eq.2 h)

theorem carryOut_hold_held (h : (w.chamber c).state = .held) :
    w.carryOut c v .hold = w.offer c (.command .hold false) :=
  if_neg (by simp [h])

theorem carryOut_resume : w.carryOut c v .resume = if (w.chamber c).state = .held then
    (w.modChamber c fun y => { y with state := .running }).offer c (.command .resume true)
    else w.offer c (.command .resume false) := by
  simp only [State.carryOut, beq_iff_eq]

theorem carryOut_step_next {next : Step} (h : v.sch.steps[v.index + 1]? = some next) : w.carryOut c v .step =
    ((w.modBound c (Charge.mark .manualStep)).stepChange c (v.index + 1) next).offer c (.command .step true) := by
  rw [State.carryOut, h]
  rfl

theorem carryOut_step_cools (h : v.sch.steps.length = v.index + 1) : w.carryOut c v .step =
    (((w.modBound c (Charge.mark .manualStep)).intoCooling c v.sch.coolTemp).offer c (.command .step true)).coolingEvents c
      .step v.sch.coolTime := by
  rw [State.carryOut, List.getElem?_eq_none h.le]
  rfl

theorem carryOut_skipPhase_next {j : Nat} {next : Step}
    (h : laterPhase v.step.phase v.index v.sch.steps = some (j, next)) : w.carryOut c v .skipPhase =
    ((w.modBound c (Charge.mark .manualStep)).stepChange c j next).offer c (.command .skipPhase true) := by
  rw [State.carryOut, h]
  rfl

theorem carryOut_skipPhase_cools (h : laterPhase v.step.phase v.index v.sch.steps = none) : w.carryOut c v .skipPhase =
    (((w.modBound c (Charge.mark .manualStep)).intoCooling c v.sch.coolTemp).offer c (.command .skipPhase true)).coolingEvents
      c .skipPhase v.sch.coolTime := by
  rw [State.carryOut, h]
  rfl

/-! ### The countdown load after a command -/

theorem countdownStage_stepped {i : Nat} {st : Step} {ev : Event} {x : Settings}
    (hstate : (w.chamber c).state ≠ .complete) (hset : (w.chamber c).settings = x) :
    ((w.stepChange c i st).offer c ev).countdownStage c =
      ((w.stepChange c i st).offer c ev).modChamber c fun y => { y with countdown := some ⟨x.interval, 0, x.interval⟩ } :=
  countdownStage_loads (by simpa [State.stepChange] using hstate) (by simpa [State.stepChange] using hset)

end

/-- Settles O32: the first two stages leave the chamber RUNNING or HELD with its queue, so the command is carried out; a STEP or a
SKIP-PHASE closes the run stage, and after a HOLD the chamber is HELD. -/
theorem runCommandsServed : Obligations.RunCommandsServed := by
  intro c s u w loaded frac k ch sch t st cmd rest hp hstate hq hcd hbound hsch hidx hst hu hw
    run load enter marked toStep intoCooling loadUnlessComplete
  obtain ⟨hk, hch⟩ := bound_eq_some.1 hbound
  have hdue : s.InstantDue c loaded k ch ⟨sch, t, st⟩ := ⟨hp, ⟨frac, hcd⟩, hk, hch, hsch, hidx, hst⟩
  obtain ⟨huq, huset, hustate⟩ := counted_chamber s c hu
  have hstate' : (u.chamber c).state ∈ [ChamberState.running, .held] := by
    obtain h | h := hustate <;> rw [h]
    · exact hstate
    · decide
  have hwx : w.chamber c = { u.chamber c with queue := rest } := by rw [hw, State.chamber_modChamber_same]
  have hwstate : (w.chamber c).state = (u.chamber c).state := by rw [hwx]
  have hwset : (w.chamber c).settings = (s.chamber c).settings := by rw [hwx]; exact huset
  have hserved : u.commandStage c ⟨sch, t, st⟩ = w.carryOut c ⟨sch, t, st⟩ cmd := by
    rw [commandStage_serves hstate' (huq.trans hq), hw]
  have hmanual := servesManual_of_serves hstate' (huq.trans hq)
  have hcooling : (s.chamber c).state ≠ .cooling := fun h => by simp [h] at hstate
  have hwcomplete : (w.chamber c).state ≠ .complete := fun h => by rw [← hwstate, h] at hstate'; simp at hstate'
  have hrun : run = .next (s.evaluate c ⟨sch, t, st⟩ loaded) :=
    exec_evaluationInstant_due hdue (by
      simp only [List.mem_cons, List.not_mem_nil, or_false] at hstate
      obtain h | h := hstate <;> rw [h] <;> rfl)
  have manual : cmd ∈ [RunCommand.step, .skipPhase] →
      run = .next ((w.carryOut c ⟨sch, t, st⟩ cmd).countdownStage c) := fun h => by
    rw [hrun, evaluate_without_run hu.symm hserved hcooling (.inr (hmanual.trans (decide_eq_true h)))]
  have stepped : ∀ j next, ((marked.stepChange c j next).offer c (.command cmd true)).countdownStage c =
      load (toStep j next) := fun j next =>
    countdownStage_stepped (by simpa [marked] using hwcomplete) (by simpa [marked] using hwset)
  have cooled : ∀ cause, (intoCooling cause).countdownStage c = loadUnlessComplete (intoCooling cause) := fun cause =>
    countdownStage_coolingEvents cause sch.coolTime (intoCooling_state marked c _) (by
      rw [State.offer_chamber, intoCooling_chamber]; exact hwset)
  clear_value run
  refine ⟨?_, ?_, ?_, ?_, ?_⟩
  · rintro rfl hx
    rw [hrun, evaluate_without_run hu.symm (hserved.trans (carryOut_hold_running (hwstate.trans hx))) hcooling (.inl (by simp)),
      countdownStage_loads (by simp) (by simpa using hwset)]
  · rintro rfl hx
    rw [hrun, evaluate_without_run hu.symm (hserved.trans (carryOut_hold_held (hwstate.trans hx))) hcooling
      (.inl (by simp [hwstate, hx])), countdownStage_loads (by simpa using hwcomplete) (by simpa using hwset)]
  · rintro rfl v rfl
    set r := if (u.chamber c).state = .held then State.offer c (.command .resume true) (enter .running)
      else w.offer c (.command .resume false) with hr
    have hrx : (r.chamber c).state = .running ∧ (r.chamber c).settings = (s.chamber c).settings := by
      rw [hr]
      split
      case isTrue => exact ⟨by simp [enter], by simpa [enter] using hwset⟩
      case isFalse hheld =>
        refine ⟨?_, by simpa using hwset⟩
        rw [State.offer_chamber, hwstate]
        simpa [hheld] using hstate'
    obtain ⟨hrstate, hrset⟩ := hrx
    have hwr : u.commandStage c ⟨sch, t, st⟩ = r := by rw [hserved, carryOut_resume, hwstate]
    rw [hrun, evaluate_with_run hu.symm hwr hcooling hrstate hmanual]
    split
    case isTrue hcomplete => rw [countdownStage_of_complete hcomplete]
    case isFalse hcomplete => rw [countdownStage_loads hcomplete ((runStage_settings loaded).trans hrset)]
  · rintro rfl
    refine ⟨fun next hnext => ?_, fun hlast => ?_⟩
    · rw [manual (by decide), carryOut_step_next hnext]
      exact congrArg Host.Outcome.next (stepped (t + 1) next)
    · rw [manual (by decide), carryOut_step_cools hlast]
      exact congrArg Host.Outcome.next (cooled .step)
  · rintro rfl
    refine ⟨fun j next hlt hj hnext hbetween => ?_, fun hnone => ?_⟩
    · rw [manual (by decide), carryOut_skipPhase_next (laterPhase_eq_some hlt hj hnext hbetween)]
      exact congrArg Host.Outcome.next (stepped j next)
    · rw [manual (by decide), carryOut_skipPhase_cools (laterPhase_eq_none hnone)]
      exact congrArg Host.Outcome.next (cooled .skipPhase)

end Sys2Proof.Machine
end

-- ==== Proofs: the event rings ====
section
/-! Chapter 5, R95 to R98 and R101: what a ring makes of an offered event, what the event does to the state, and the answers of
MARK. -/

namespace Sys2Proof.Machine

/-! ### What becomes of an offered event -/

section
variable {st : Settings} {ev : Event} {r : EventRing}

theorem verdict_disabled (h : st.enables ev = false) : r.verdict st ev = .disabled :=
  if_pos (by simp [h])

/-- An enabled event is recorded while the ring has room, and over the oldest entry in OVERWRITE mode (R97). -/
theorem verdict_entry (h : st.enables ev = true) (hroom : r.entries.length < 8 ∨ st.ringMode = .overwrite) :
    r.verdict st ev = .entry ((r.counter + 1) % 65536) := by
  refine (if_neg (by simp [h])).trans ?_
  by_cases hlen : r.entries.length < 8
  · exact if_pos hlen
  · refine (if_neg hlen).trans ?_
    rw [hroom.resolve_left hlen]

theorem verdict_full (h : st.enables ev = true) (hlen : r.entries.length = 8) (hmode : st.ringMode = .stop) :
    r.verdict st ev = .full := by
  refine (if_neg (by simp [h])).trans ((if_neg hlen.not_lt).trans ?_)
  rw [hmode]

/-- The sequence counter goes on from 65535 to 0 (R95). -/
theorem nextSeq_eq {n : Nat} (h : n ≤ 65535) : (n + 1) % 65536 = if n < 65535 then n + 1 else 0 := by
  split <;> omega

theorem after_entry {mk : Nat → RingEntry} {seq : Nat} (hv : r.verdict st ev = .entry seq) :
    r.after st ev mk = ⟨r.kept ++ [mk seq], seq, r.overflow⟩ := by
  unfold EventRing.after
  rw [hv]
  rfl

theorem after_full {mk : Nat → RingEntry} (hv : r.verdict st ev = .full) :
    r.after st ev mk = ⟨r.entries, r.counter, true⟩ := by
  unfold EventRing.after
  rw [hv]

/-- A recorded event raises RING under EACH, and under FULL when it makes the eighth entry (R98). -/
theorem raises_entry {seq : Nat} (hv : r.verdict st ev = .entry seq) :
    r.raises st ev = true ↔ st.ringPolicy = .each ∨ r.entries.length = 7 := by
  unfold EventRing.raises
  rw [hv]
  cases st.ringPolicy <;> simp [Config.ringSize]

/-- An event lost to a full ring raises RING when it sets the overflow flag (R97). -/
theorem raises_full (hv : r.verdict st ev = .full) : r.raises st ev = !r.overflow := by
  unfold EventRing.raises
  rw [hv]

end

/-! ### What an offered event does -/

section
variable {s : State} {c : ChamberNo} {ev : Event}

/-- An offered event replaces its ring, and after that raises RING if it does so at all. -/
theorem offer_eq (s : State) (c : ChamberNo) (ev : Event) : s.offer c ev =
    let t := s.setRing c ((s.eventRing c).after (s.chamber c).settings ev (s.entryOf c ev))
    if (s.eventRing c).raises (s.chamber c).settings ev = true then t.raise .ring else t := by
  unfold State.offer
  dsimp only
  split <;> rfl

theorem offer_entry {seq : Nat} (hv : (s.eventRing c).verdict (s.chamber c).settings ev = .entry seq) : s.offer c ev =
    let t := s.setRing c ⟨(s.eventRing c).kept ++ [s.entryOf c ev seq], seq, (s.eventRing c).overflow⟩
    if (s.chamber c).settings.ringPolicy = .each ∨ (s.eventRing c).entries.length = 7 then t.raise .ring else t := by
  rw [offer_eq, after_entry hv]
  exact if_congr (raises_entry hv) rfl rfl

theorem offer_full (hv : (s.eventRing c).verdict (s.chamber c).settings ev = .full) : s.offer c ev =
    let t := s.setRing c ⟨(s.eventRing c).entries, (s.eventRing c).counter, true⟩
    if (s.eventRing c).overflow = true then t else t.raise .ring := by
  rw [offer_eq, after_full hv, raises_full hv]
  cases (s.eventRing c).overflow <;> rfl

end

/-- Settles O36: the verdict of R97 in each case, and with it the ring and the raising. -/
theorem eventsRecorded : Obligations.EventsRecorded := by
  rintro c ev s r st entry rfl rfl hentry
  refine ⟨by cases ev <;> rfl, offer_disabled, fun hen hcount => ?_⟩
  have hseq := nextSeq_eq hcount
  have hrecord : entry = s.entryOf c ev (((s.eventRing c).counter + 1) % 65536) := by
    rw [hentry, hseq]
    rfl
  have hentrySeq : entry.seq = ((s.eventRing c).counter + 1) % 65536 := by rw [hrecord]; rfl
  refine ⟨?_, ?_, ?_⟩
  · rintro hlen t rfl
    have hkept : (s.eventRing c).kept = (s.eventRing c).entries := if_pos hlen
    rw [offer_entry (verdict_entry hen (.inl hlen)), hkept, ← hrecord, ← hentrySeq]
    rfl
  · rintro hlen hmode t rfl
    have hkept : (s.eventRing c).kept = (s.eventRing c).entries.drop 1 := (if_neg hlen.not_lt).trans List.drop_one.symm
    rw [offer_entry (verdict_entry hen (.inr hmode)), hkept, ← hrecord, ← hentrySeq]
    exact if_congr (by simp [hlen]) rfl rfl
  · rintro hlen hmode t rfl
    exact offer_full (verdict_full hen hlen hmode)

/-! ### MARK -/

section
variable {s : State} {c : ChamberNo} {origin : Port} {b hi lo : Byte} {rest : List Byte}

theorem markOwner_outOfRange (h : 4 ≤ b.toNat) : markOwner origin (b :: hi :: lo :: rest) s = refuse .outOfRange s := by
  rw [markOwner, withChamber_outside h]

theorem markOwner_disabled (hb : b.toNat = c.val) (h : (s.chamber c).settings.enables (.mark (nat16 hi lo) origin) = false) :
    markOwner origin (b :: hi :: lo :: rest) s = took s s.stamp.field := by
  rw [markOwner, withChamber_inside hb]
  dsimp only
  rw [verdict_disabled h, offer_disabled h]

theorem markOwner_full (hb : b.toNat = c.val)
    (hv : (s.eventRing c).verdict (s.chamber c).settings (.mark (nat16 hi lo) origin) = .full) :
    markOwner origin (b :: hi :: lo :: rest) s =
      some (s.offer c (.mark (nat16 hi lo) origin), ⟨.full, s.stamp.field⟩) := by
  rw [markOwner, withChamber_inside hb]
  dsimp only
  rw [hv]

theorem markOwner_recorded {seq : Nat} (hb : b.toNat = c.val)
    (hv : (s.eventRing c).verdict (s.chamber c).settings (.mark (nat16 hi lo) origin) = .entry seq) :
    markOwner origin (b :: hi :: lo :: rest) s =
      took (s.offer c (.mark (nat16 hi lo) origin)) (s.stamp.field ++ u16 seq) := by
  rw [markOwner, withChamber_inside hb]
  dsimp only
  rw [hv]

end

/-- Settles O37: MARK is of the CHECK group and answers by the verdict on its event. -/
theorem markAnswers : Obligations.MarkAnswers := by
  intro p tag b hi lo rest s ht run time
  have hp : Request.mark.permitted p = true := by cases p <;> rfl
  refine ⟨fun h => request_refused ht hp (markOwner_outOfRange h), ?_⟩
  rintro c hb r st rfl rfl
  refine ⟨fun hen => ?_, fun hen hlen hmode => ?_, fun hen hcount hroom => ?_⟩
  · exact request_taken ht hp (markOwner_disabled hb hen)
  · exact request_taken ht hp (markOwner_full hb (verdict_full hen hlen hmode))
  · rw [← nextSeq_eq hcount]
    exact request_taken ht hp (markOwner_recorded hb (verdict_entry hen hroom))

end Sys2Proof.Machine
end

-- ==== Proofs: the doors ====
section
/-! Chapter 5, R89 to R92: the samples of a DOOR input, the debounce and the door limit, and the accepted changes of a door. -/

namespace Sys2Proof.Machine

section
variable {s : State} {c : ChamberNo}

/-! ### Samples of a DOOR input -/

section
variable {level : DoorLevel}

theorem exec_doorInputChange (hp : s.power.main = true) : exec (.doorInputChange c level) s = .next (s.sampleDoor c level) :=
  if_pos hp

theorem sampleDoor_same (h : level = (s.monitor c).door) :
    s.sampleDoor c level = s.setMonitor c { s.monitor c with input := level, debounce := none } :=
  if_pos h

theorem sampleDoor_pending (h : level ≠ (s.monitor c).door) (hb : (s.monitor c).debounce ≠ none) :
    s.sampleDoor c level = s.setMonitor c { s.monitor c with input := level } := by
  obtain ⟨b, hb⟩ := Option.ne_none_iff_exists'.1 hb
  refine (if_neg h).trans ?_
  simp only [hb]

theorem sampleDoor_begins (h : level ≠ (s.monitor c).door) (hb : (s.monitor c).debounce = none)
    (hperiod : (s.chamber c).settings.debounce.period ≠ 0) : s.sampleDoor c level =
      s.setMonitor c { s.monitor c with input := level, debounce := some ⟨0, (s.chamber c).settings.debounce.period⟩ } := by
  refine (if_neg h).trans ?_
  simp only [hb]
  exact if_neg hperiod

theorem sampleDoor_accepts (h : level ≠ (s.monitor c).door) (hb : (s.monitor c).debounce = none)
    (hperiod : (s.chamber c).settings.debounce.period = 0) : s.sampleDoor c level =
      (s.setMonitor c { s.monitor c with input := level }).acceptDoor c level := by
  refine (if_neg h).trans ?_
  simp only [hb]
  exact if_pos hperiod

end

/-! ### The door limit -/

theorem exec_doorLimitPassed_raises {h : DoorHold} (hp : s.power.main = true) (hh : (s.monitor c).hold = some h)
    (hpassed : s.limitPassed c = true) : exec (.doorLimitPassed c) s =
      .next ((s.setMonitor c { s.monitor c with hold := some { h with limitNotice := true } }).raise .door) := by
  refine (if_pos hp).trans (congrArg _ ((if_pos hpassed).trans ?_))
  dsimp only
  rw [hh, Option.map_some]

theorem exec_doorLimitPassed_idle (hp : s.power.main = true) (hpassed : ¬s.limitPassed c = true) :
    exec (.doorLimitPassed c) s = .next s :=
  (if_pos hp).trans (congrArg _ (if_neg hpassed))

end

/-- Settles O34: the three tests of a sample in their order, and the test of the door limit. -/
theorem doorInputs : Obligations.DoorInputs := by
  intro c level s hp run d
  have hrun : run = .next (s.sampleDoor c level) := exec_doorInputChange hp
  clear_value run
  subst hrun
  refine ⟨fun h => ?_, fun h hb => ?_, fun period h hb hperiod => ?_, fun h hb hzero => ?_,
    fun openTime hx hh hlimit => ?_, fun openTime noticed hh hnot => ?_⟩
  · exact congrArg _ (sampleDoor_same h)
  · exact congrArg _ (sampleDoor_pending h hb)
  · have hset : (s.chamber c).settings.debounce.period = period ∧ period ≠ 0 := by
      obtain ⟨hset, rfl⟩ | ⟨hset, rfl⟩ | ⟨hset, rfl⟩ := hperiod <;> rw [hset] <;> exact ⟨rfl, by decide⟩
    obtain ⟨rfl, hne⟩ := hset
    exact congrArg _ (sampleDoor_begins h hb hne)
  · exact congrArg _ (sampleDoor_accepts h hb (by rw [hzero]; rfl))
  · exact exec_doorLimitPassed_raises hp hh (limitPassed_iff.2 ⟨_, hh, hx, hlimit, rfl⟩)
  · refine exec_doorLimitPassed_idle hp fun hpassed => ?_
    obtain ⟨h, hh', -, hlimit, hfresh⟩ := limitPassed_iff.1 hpassed
    obtain rfl : ⟨openTime, noticed⟩ = h := Option.some.inj (hh.symm.trans hh')
    obtain hnoticed | hwithin := hnot
    · exact absurd hfresh (by simp [hnoticed])
    · exact Nat.not_lt.2 hwithin hlimit

/-! ### Accepted openings and closings -/

section
variable {s : State} {c : ChamberNo}

theorem exec_doorDebounceExpiry (hp : s.power.main = true) : exec (.doorDebounceExpiry c) s =
    .next (if (s.monitor c).debounceOver = true then s.acceptDoor c (s.monitor c).input else s) :=
  if_pos hp

/-! An accepted change is an opening or a closing of the state whose door is already set. -/

theorem acceptDoor_opened_stamped (h : (s.chamber c).state ∉ [ChamberState.running, .held]) : s.acceptDoor c .opened =
    (s.setMonitor c { s.monitor c with door := .opened, debounce := none }).offer c (.doorOpen false) := by
  change State.opened c _ = _
  unfold State.opened
  split
  case h_1 hx => exact absurd (List.mem_cons.2 (.inl hx)) h
  case h_2 hx => exact absurd (List.mem_cons_of_mem _ (List.mem_singleton.2 hx)) h
  all_goals rfl

theorem acceptDoor_opened_holds {ret : ReturnState}
    (h : ((s.chamber c).state = .running ∧ ret = .running) ∨ ((s.chamber c).state = .held ∧ ret = .held)) :
    s.acceptDoor c .opened =
      (s.setMonitor c { s.monitor c with door := .opened, debounce := none }).beginHold c ret := by
  change State.opened c _ = _
  unfold State.opened
  rw [State.setMonitor_chamber]
  obtain ⟨hx, rfl⟩ | ⟨hx, rfl⟩ := h <;> rw [hx]

theorem acceptDoor_closed_stamped (h : (s.chamber c).state ≠ .doorHold) : s.acceptDoor c .closed =
    (s.setMonitor c { s.monitor c with door := .closed, debounce := none }).offer c (.doorClose 0 .stamp) := by
  change State.shut c _ = _
  unfold State.shut
  split
  case h_1 hx _ _ => exact absurd hx h
  case h_2 => rfl

theorem acceptDoor_closed_holds {h : DoorHold} {ret : ReturnState} (hx : (s.chamber c).state = .doorHold)
    (hh : (s.monitor c).hold = some h) (hret : (s.chamber c).returnState = some ret) : s.acceptDoor c .closed =
      (s.setMonitor c { s.monitor c with door := .closed, debounce := none }).endHold c h ret.toState := by
  change State.shut c _ = _
  unfold State.shut
  rw [State.monitor_setMonitor_same, State.setMonitor_chamber, hx, hh, hret]

section
variable {k : Fin 8} {ch : Charge} (hk : (s.chamber c).chargeSlot = some k) (hch : s.charge k = some ch)
include hk hch

/-- R90 in a state whose door monitor has been set, through a whole binding. -/
theorem beginHold_setMonitor (d : DoorMonitor) (ret : ReturnState) : (s.setMonitor c d).beginHold c ret =
    State.offer c (.doorOpen true)
      { s with
        doors := s.doors.set c { d with hold := some ⟨0, false⟩ }
        chambers := s.chambers.set c { s.chamber c with state := .doorHold, returnState := some ret }
        charges := s.charges.set k (some { ch with doorOpenings := min (ch.doorOpenings + 1) 65535 }) } := by
  rw [State.beginHold, modBound_eq_set (k := k) (ch := ch) _ (by simpa using hk) (by simpa using hch)]
  dsimp only
  rw [State.setCharge_monitor, State.modChamber_monitor, State.monitor_setMonitor_same]
  simp only [State.modChamber, State.setChamber, State.setCharge, State.setMonitor, Vector.set_set]
  rfl

/-- R92 past the door limit. -/
theorem endHold_long {d : DoorMonitor} {h : DoorHold} {ret : ChamberState}
    (hlimit : (s.chamber c).settings.doorLimit * 3840 < h.openTime) : (s.setMonitor c d).endHold c h ret =
      State.offer c (.autoHold .doorLong) (State.offer c (.doorClose (h.openTime / 64) .long) (State.raise .held
        { s with
          doors := s.doors.set c { d with hold := none }
          chambers := s.chambers.set c { s.chamber c with state := .held, returnState := none }
          charges := s.charges.set k (some { ch with
            doorSeconds := min (ch.doorSeconds + h.openTime / 64) 4294967295, marks := ch.marks ||| 0b00100000#8 }) })) := by
  rw [State.endHold, modBound_eq_set (s := s.setMonitor c d) _ hk hch]
  refine (if_pos hlimit).trans ?_
  dsimp only
  rw [modBound_eq_set (k := k) _ (by simpa using hk) (by rw [State.modChamber_charge, State.setMonitor_charge,
    State.charge_setCharge_same]), State.setCharge_monitor, State.monitor_setMonitor_same]
  simp only [State.modChamber, State.setChamber, State.setCharge, State.setMonitor, Vector.set_set]
  rfl

/-- R92 within the door limit. -/
theorem endHold_returned {d : DoorMonitor} {h : DoorHold} {ret : ChamberState}
    (hlimit : h.openTime ≤ (s.chamber c).settings.doorLimit * 3840) : (s.setMonitor c d).endHold c h ret =
      State.offer c (.doorClose (h.openTime / 64) .returned)
        { s with
          doors := s.doors.set c { d with hold := none }
          chambers := s.chambers.set c { s.chamber c with state := ret, returnState := none }
          charges := s.charges.set k (some { ch with
            doorSeconds := min (ch.doorSeconds + h.openTime / 64) 4294967295 }) } := by
  rw [State.endHold, modBound_eq_set (s := s.setMonitor c d) _ hk hch]
  refine (if_neg (Nat.not_lt.2 hlimit)).trans ?_
  dsimp only
  rw [State.setCharge_monitor, State.monitor_setMonitor_same]
  simp only [State.modChamber, State.setChamber, State.setCharge, State.setMonitor, Vector.set_set]
  rfl

end

end

theorem toState_eq (ret : ReturnState) : ret.toState = if ret = .running then .running else .held := by
  cases ret <;> rfl

/-- Settles O35: the debounce decides whether the change is accepted; the change is then an opening or a closing, and in a run it
begins or ends a door hold. -/
theorem doorChangesAccepted : Obligations.DoorChangesAccepted := by
  rintro c s d b hp rfl hb run
  have hrun : run = _ := exec_doorDebounceExpiry hp
  have accepted : ∀ level, b.period ≤ b.elapsed → (s.monitor c).input = level → (s.monitor c).input ≠ (s.monitor c).door →
      run = .next (s.acceptDoor c level) := by
    rintro level he rfl hne
    exact hrun.trans (congrArg _ (if_pos (debounceOver_iff.2 ⟨b, hb, he, hne⟩)))
  clear_value run
  refine ⟨fun h => ?_, fun he hdoor hinput => ?_, fun he hdoor hinput => ?_⟩
  · refine hrun.trans (congrArg _ (if_neg fun hover => ?_))
    obtain ⟨b', hb', he, hne⟩ := debounceOver_iff.1 hover
    obtain rfl : b = b' := Option.some.inj (hb.symm.trans hb')
    exact h.elim (Nat.not_lt.2 he) hne
  · rw [accepted .opened he hinput (by simp [hdoor, hinput])]
    refine ⟨fun hx => congrArg _ (acceptDoor_opened_stamped hx), fun k ch ret hk hch hx => ?_⟩
    rw [acceptDoor_opened_holds hx, beginHold_setMonitor hk hch]
  · rw [accepted .closed he hinput (by simp [hdoor, hinput])]
    refine ⟨fun hx => congrArg _ (acceptDoor_closed_stamped hx), fun k ch openTime noticed ret hk hch hx hh hret => ?_⟩
    rw [acceptDoor_closed_holds hx hh hret]
    refine ⟨fun hlimit => ?_, fun hlimit => ?_⟩
    · rw [endHold_long hk hch hlimit]
    · rw [endHold_returned hk hch hlimit, toState_eq]

end Sys2Proof.Machine
end

-- ==== Proofs: the boards of the line ====
section
/-! Chapter 6, R103 and R106 to R113: what a board frame carries, its gap, and what one grading operation makes of it. -/

namespace Sys2Proof.Machine

/-! ### Frames -/

theorem boardMc_eq_some {hi lo : Byte} {mc : Option Nat} : boardMc hi lo = some mc ↔
    (nat16 hi lo = 0xFFFF ∧ mc = none) ∨ (nat16 hi lo ≤ 600 ∧ mc = some (nat16 hi lo)) := by
  unfold boardMc
  dsimp only
  split
  · rename_i h
    simp [h, eq_comm]
  · rename_i h
    split <;> rename_i hle <;> simp [h, hle, eq_comm]

theorem boardLength_eq_some {hi lo : Byte} {n : Nat} : boardLength hi lo = some n ↔
    (nat16 hi lo = 0 ∨ (60 ≤ nat16 hi lo ∧ nat16 hi lo ≤ 900)) ∧ n = nat16 hi lo := by
  unfold boardLength
  dsimp only
  rw [Option.ite_none_right_eq_some, Option.some_inj, eq_comm (a := n)]
  simp

section
variable {q m1 m0 l1 l0 ck : Byte}

/-- A frame carries a board when its check passes and neither field is malformed (R103, R175). -/
theorem boardOf_eq_some {b : Board} : boardOf q m1 m0 l1 l0 ck = some b ↔
    q + m1 + m0 + l1 + l0 + ck = 0#8 ∧ ∃ mc n, boardMc m1 m0 = some mc ∧ boardLength l1 l0 = some n ∧ b = ⟨q, mc, n⟩ := by
  have hsum : sumsToZero [q, m1, m0, l1, l0, ck] = true ↔ q + m1 + m0 + l1 + l0 + ck = 0#8 := by simp [sumsToZero]
  unfold boardOf
  rw [← hsum]
  split
  · rename_i h
    cases boardMc m1 m0 <;> cases boardLength l1 l0 <;> simp [h, eq_comm]
  · rename_i h
    simp [h]

/-- A frame that passes its check with fields in range carries a board of its own sequence and length. -/
theorem boardOf_exists (hsum : q + m1 + m0 + l1 + l0 + ck = 0#8) (hmc : nat16 m1 m0 ≤ 600 ∨ nat16 m1 m0 = 0xFFFF)
    (hlen : nat16 l1 l0 = 0 ∨ (60 ≤ nat16 l1 l0 ∧ nat16 l1 l0 ≤ 900)) :
    ∃ mc, boardOf q m1 m0 l1 l0 ck = some ⟨q, mc, nat16 l1 l0⟩ := by
  have hlength := boardLength_eq_some.2 ⟨hlen, rfl⟩
  obtain h | h := hmc
  · exact ⟨_, boardOf_eq_some.2 ⟨hsum, _, _, boardMc_eq_some.2 (.inr ⟨h, rfl⟩), hlength, rfl⟩⟩
  · exact ⟨_, boardOf_eq_some.2 ⟨hsum, _, _, boardMc_eq_some.2 (.inl ⟨h, rfl⟩), hlength, rfl⟩⟩

theorem boardOf_eq_none (h : ¬(q + m1 + m0 + l1 + l0 + ck = 0#8 ∧ (nat16 m1 m0 ≤ 600 ∨ nat16 m1 m0 = 0xFFFF) ∧
    (nat16 l1 l0 = 0 ∨ (60 ≤ nat16 l1 l0 ∧ nat16 l1 l0 ≤ 900)))) : boardOf q m1 m0 l1 l0 ck = none := by
  refine Option.eq_none_iff_forall_ne_some.2 fun b hb => h ?_
  obtain ⟨hsum, mc, n, hmc, hlen, -⟩ := boardOf_eq_some.1 hb
  refine ⟨hsum, ?_, (boardLength_eq_some.1 hlen).1⟩
  obtain ⟨h, -⟩ | ⟨h, -⟩ := boardMc_eq_some.1 hmc
  · exact .inr h
  · exact .inl h

variable {s : State} {e : Nat}

theorem linkTakes_frame {rx : LinkRx} (hm : s.power.main = true) (hrx : rx = .frame e) (he : e < 4) :
    s.linkTakes rx = true := by
  subst hrx
  rw [State.linkTakes, hm]
  exact decide_eq_true he

theorem exec_boardFrame_discarded (hm : s.power.main = true) (hrx : s.boardRx = .frame e) (he : e < 4)
    (hb : boardOf q m1 m0 l1 l0 ck = none) : exec (.boardFrame q m1 m0 l1 l0 ck) s = .next { s with boardRx := .hunt } := by
  refine (if_pos (linkTakes_frame hm hrx he)).trans ?_
  rw [hb]

theorem exec_boardFrame_graded {b : Board} (hm : s.power.main = true) (hrx : s.boardRx = .frame e) (he : e < 4)
    (hb : boardOf q m1 m0 l1 l0 ck = some b) :
    exec (.boardFrame q m1 m0 l1 l0 ck) s = orBroken ({ s with boardRx := .hunt }.grade b) := by
  refine (if_pos (linkTakes_frame hm hrx he)).trans ?_
  rw [hb]

end

/-! ### The sequence gap -/

theorem sequenceGap_within {l q : Byte} (h : (q - l - 1#8).toNat ≤ 15) :
    sequenceGap (some l) q = ((q - l - 1#8).toNat, false) :=
  if_pos h

theorem sequenceGap_beyond {l q : Byte} (h : 16 ≤ (q - l - 1#8).toNat) : sequenceGap (some l) q = (0, true) :=
  if_neg (Nat.not_le.2 h)

/-- A resync is a first frame, or a gap of 16 or more (R107). -/
theorem sequenceGap_resync {last : Option Byte} {q : Byte} :
    (sequenceGap last q).2 = true ↔ last = none ∨ ∃ l, last = some l ∧ 16 ≤ (q - l - 1#8).toNat := by
  cases last with
  | none => exact iff_of_true rfl (.inl rfl)
  | some l =>
    obtain h | h := Nat.lt_or_ge (q - l - 1#8).toNat 16
    · rw [sequenceGap_within (Nat.le_of_lt_succ h)]
      exact iff_of_false Bool.false_ne_true (by simpa using h)
    · rw [sequenceGap_beyond h]
      exact iff_of_true rfl (.inr ⟨l, rfl, h⟩)

/-- The state after the gap of a new frame: a resync raises SEQ (R107). -/
def State.seqNoted (q : Byte) (s : State) : State := if (sequenceGap s.lastSeq q).2 then s.raise .seq else s

section
variable {s u : State} {q : Byte}

/-- What a grading reads after the gap stands as it stood before. -/
theorem seqNoted_keeps (hu : s.seqNoted q = u) : u.draw = s.draw ∧ u.plan = s.plan ∧ u.fifo = s.fifo ∧
    u.lineReady = s.lineReady ∧ u.charges = s.charges := by
  subst hu
  unfold State.seqNoted
  split <;> exact ⟨rfl, rfl, rfl, rfl, rfl⟩

/-- R107: a first frame and a gap of 16 or more are resyncs with no board unseen. -/
theorem newFrame_gap {g : Nat} (h : (s.lastSeq = none ∧ g = 0 ∧ u = s.raise .seq) ∨
      ∃ l, s.lastSeq = some l ∧ l ≠ q ∧ (((q - l - 1#8).toNat ≤ 15 ∧ g = (q - l - 1#8).toNat ∧ u = s) ∨
        (16 ≤ (q - l - 1#8).toNat ∧ g = 0 ∧ u = s.raise .seq))) :
    s.lastSeq ≠ some q ∧ (sequenceGap s.lastSeq q).1 = g ∧ s.seqNoted q = u := by
  unfold State.seqNoted
  obtain ⟨h, rfl, rfl⟩ | ⟨l, h, hne, ⟨hin, rfl, rfl⟩ | ⟨hout, rfl, rfl⟩⟩ := h
  · rw [h]
    exact ⟨nofun, rfl, rfl⟩
  · rw [h, sequenceGap_within hin]
    exact ⟨by simpa using hne, rfl, rfl⟩
  · rw [h, sequenceGap_beyond hout]
    exact ⟨by simpa using hne, rfl, rfl⟩

end

/-! ### A grading operation -/

section
variable {s u : State} {b : Board}

theorem grade_repeat (h : s.lastSeq = some b.sequence) : s.grade b = some { s with boardOut := s.lastReply } :=
  if_pos h

/-- R108: with no draw ACTIVE the board is counted in no charge. -/
theorem grade_noCharge (hnew : s.lastSeq ≠ some b.sequence) (hu : s.seqNoted b.sequence = u)
    (hd : ∀ d, u.draw = some d → d.ending = true) :
    s.grade b = some (u.closeGrading ⟨b.sequence, .reject, .noCharge⟩) := by
  refine (if_neg hnew).trans ?_
  unfold State.seqNoted at hu
  simp only [State.gradeNew, hu]
  split
  · rfl
  · rename_i d hdraw
    exact if_pos (hd d hdraw)

variable {d : Draw} {ch : Charge} {rem g : Nat}

/-- R109 to R111: a board of an ACTIVE draw is counted, disposed of and closed. -/
theorem grade_counted {w : State} {v : Disposition} {cause : DispositionCause} (hnew : s.lastSeq ≠ some b.sequence)
    (hu : s.seqNoted b.sequence = u) (hg : (sequenceGap s.lastSeq b.sequence).1 = g) (hd : u.draw = some d)
    (hactive : d.ending = false) (hch : u.charge d.slot = some ch) (hrem : ch.remaining = some rem)
    (hw : u.countAndDispose d ch rem g b = (w, v, cause)) :
    s.grade b = some (w.closeGrading ⟨b.sequence, v, cause⟩).checkBlocked := by
  refine (if_neg hnew).trans ?_
  unfold State.seqNoted at hu
  simp [State.gradeNew, hu, hg, hd, hactive, hch, hrem, hw]

/-! ### Counts -/

/-- R109: what passes remaining is overrun, and marks the charge. -/
theorem countBoard_eq (g rem : Nat) (ch : Charge) : ch.countBoard g rem = { ch with
    graded := addCount ch.graded (g + 1)
    unseen := addCount ch.unseen g
    remaining := some (rem - (g + 1))
    overrun := if rem < g + 1 then addCount ch.overrun (g + 1 - rem) else ch.overrun
    marks := if rem < g + 1 then ch.marks ||| 0b01000000#8 else ch.marks } := by
  unfold Charge.countBoard
  obtain h | h := Nat.lt_or_ge rem (g + 1)
  · rw [if_neg (Nat.not_le.2 h), if_pos h, if_pos h, Nat.sub_eq_zero_of_le h.le]
    rfl
  · rw [if_pos h, if_neg (Nat.not_lt.2 h), if_neg (Nat.not_lt.2 h)]

/-- Auto-end of a draw whose remaining, `rem` before a gap of `g`, reaches 0 by this board (R110). -/
def State.autoEnded (d : Draw) (rem g : Nat) (s : State) : State :=
  { s with draw := if d.autoEnd = true ∧ 0 < rem ∧ rem ≤ g + 1 then some { d with ending := true } else s.draw }

theorem autoEnded_eq_ite : s.autoEnded d rem g =
    if d.autoEnd = true ∧ rem ≠ 0 ∧ rem ≤ g + 1 then { s with draw := some { d with ending := true } } else s := by
  simp only [State.autoEnded, Nat.pos_iff_ne_zero]
  split <;> rfl

variable {v : Disposition} {cause : DispositionCause}

theorem countAndDispose_unpacked (hch : s.charge d.slot = some ch)
    (hv : dispose ch s.plan s.fifo.length b = (v, cause)) (hne : v ≠ .pack) : s.countAndDispose d ch rem g b =
      ((s.setCharge d.slot (some ((ch.countBoard g rem).countDisposition v))).autoEnded d rem g, v, cause) := by
  rw [State.countAndDispose, hv, modCharge_eq_set _ hch, autoEnded_eq_ite]
  dsimp only
  rw [if_neg hne]

theorem countAndDispose_packed (hch : s.charge d.slot = some ch)
    (hv : dispose ch s.plan s.fifo.length b = (.pack, cause)) : s.countAndDispose d ch rem g b =
      (((s.setCharge d.slot (some (ch.countBoard g rem))).placeBoard (b.record d.slot s.plan)).autoEnded d rem g,
        .pack, cause) := by
  rw [State.countAndDispose, hv, modCharge_eq_set _ hch, autoEnded_eq_ite]
  rfl

end

theorem readyAfterEntering_succ (n : Nat) (ready : Bool) :
    readyAfterEntering (n + 1) ready = if n = 27 then false else ready :=
  if_congr Nat.succ_inj rfl rfl

/-! ### The disposition of R110, in its order of tests -/

section
variable {ch : Charge} {plan : PackPlan} {held : Nat} {b : Board}

theorem dispose_short (h : b.length ≠ 0 ∧ b.length < plan.minLength) : dispose ch plan held b = (.reject, .short) :=
  if_pos h

variable (hlong : ¬(b.length ≠ 0 ∧ b.length < plan.minLength))
include hlong

theorem dispose_wet (hwet : ∃ m, b.mc = some m ∧ ch.targetMc + ch.wetMargin < m) :
    dispose ch plan held b = (.wet, .none) := by
  obtain ⟨m, hm, hwet⟩ := hwet
  refine (if_neg hlong).trans ?_
  rw [hm]
  exact if_pos hwet

/-- A board that is neither SHORT nor WET goes where the FIFO has room for it. -/
theorem dispose_dry (hdry : ¬∃ m, b.mc = some m ∧ ch.targetMc + ch.wetMargin < m) :
    dispose ch plan held b = if 32 ≤ held then (.reject, .full) else (.pack, .none) := by
  refine (if_neg hlong).trans ?_
  cases hmc : b.mc with
  | none => rfl
  | some m => exact if_neg fun hwet => hdry ⟨m, hmc, hwet⟩

end

/-- Settles O38: the frame carries no board, or a repeat, or a board that finds no draw ACTIVE. -/
theorem boardsNotCounted : Obligations.BoardsNotCounted := by
  intro q m1 m0 l1 l0 ck e s t hm hrx he ht run good
  have hseq : t.lastSeq = s.lastSeq := by rw [ht]
  have graded : ∀ {v}, good → (∀ mc, t.grade ⟨q, mc, nat16 l1 l0⟩ = some v) → run = .next v := by
    rintro v ⟨hsum, hmc, hlen⟩ hv
    obtain ⟨mc, hb⟩ := boardOf_exists hsum hmc hlen
    exact (exec_boardFrame_graded hm hrx he hb).trans (ht ▸ orBroken_eq_next.2 (hv mc))
  refine ⟨fun h => ht ▸ exec_boardFrame_discarded hm hrx he (boardOf_eq_none h), fun h hrep => ?_,
    fun h hnew hd u hu => ?_⟩
  · rw [graded h fun mc => grade_repeat (hseq.trans hrep), ht]
  · have hnoted : t.seqNoted q = u := by rw [hu, State.seqNoted, hseq, if_congr sequenceGap_resync rfl rfl]
    obtain ⟨hdraw, hplan, -⟩ := seqNoted_keeps hnoted
    rw [ht] at hdraw hplan
    have hrun : run = .next (u.closeGrading ⟨q, .reject, .noCharge⟩) :=
      graded h fun mc => grade_noCharge (by rwa [hseq]) hnoted (by rwa [hdraw])
    rw [hrun, State.closeGrading, hplan]

/-- Settles O39: the gap and the tests of R110 say what the count and the disposition are; the closing is the same for all. -/
theorem boardsCounted : Obligations.BoardsCounted := by
  refine ⟨fun a b => addCount_exact, ?_⟩
  intro q m1 m0 l1 l0 ck e g rem mc d ch counted s t u hm hrx he ht hsum hmc hlen hd hactive hch hrem hgap hcounted run
    short wet done rejected
  have hseq : t.lastSeq = s.lastSeq := by rw [ht]
  obtain ⟨hnew, hg, hnoted⟩ := newFrame_gap (hseq ▸ hgap)
  obtain ⟨hdraw, hplan, hfifo, hready, hcharges⟩ : u.draw = s.draw ∧ u.plan = s.plan ∧ u.fifo = s.fifo ∧
      u.lineReady = s.lineReady ∧ u.charges = s.charges := by
    have := seqNoted_keeps hnoted
    rwa [ht] at this
  have hdrawn : u.charge d.slot = some ch := by rw [State.charge, hcharges]; exact hch
  have hcount : ch.countBoard g rem = counted := (countBoard_eq g rem ch).trans hcounted.symm
  have hb : boardOf q m1 m0 l1 l0 ck = some ⟨q, mc, nat16 l1 l0⟩ :=
    boardOf_eq_some.2 ⟨hsum, mc, _, boardMc_eq_some.2 hmc, boardLength_eq_some.2 ⟨hlen, rfl⟩, rfl⟩
  -- the closing and auto-end, whatever the disposition
  have hrun : ∀ {v cause w}, u.countAndDispose d ch rem g ⟨q, mc, nat16 l1 l0⟩ = (w.autoEnded d rem g, v, cause) →
      w.draw = s.draw → w.plan = s.plan → run = done v cause w := by
    intro v cause w hw hwdraw hwplan
    refine (exec_boardFrame_graded hm hrx he hb).trans (orBroken_eq_next.2 ?_)
    rw [← ht, grade_counted (b := ⟨q, mc, nat16 l1 l0⟩) hnew hnoted hg (hdraw.trans hd) hactive hdrawn hrem hw,
      State.closeGrading, State.autoEnded]
    dsimp only
    rw [hwdraw, hwplan]
  -- a board that stays out of the FIFO changes nothing but its charge
  have unpacked : ∀ {v cause}, dispose ch s.plan s.fifo.length ⟨q, mc, nat16 l1 l0⟩ = (v, cause) → v ≠ .pack →
      run = done v cause { u with charges := s.charges.set d.slot (some (counted.countDisposition v)) } := by
    intro v cause hv hne
    refine hrun ((countAndDispose_unpacked hdrawn (by rw [hplan, hfifo, hv]) hne).trans ?_) hdraw hplan
    rw [hcount, State.setCharge, hcharges]
  obtain ⟨hwet, hrejected⟩ : counted.wet = ch.wet ∧ counted.rejected = ch.rejected := by
    rw [hcounted]
    exact ⟨rfl, rfl⟩
  refine ⟨fun hs => ?_, fun hs hw => ?_, fun hs hw hfull => ?_, fun hs hw hroom => ?_⟩
  · rw [unpacked (dispose_short hs) nofun, Charge.countDisposition, hrejected]
  · rw [unpacked (dispose_wet hs hw) nofun, Charge.countDisposition, hwet]
  · rw [unpacked ((dispose_dry hs hw).trans (if_pos hfull)) nofun, Charge.countDisposition, hrejected]
  · have hpack : dispose ch u.plan u.fifo.length ⟨q, mc, nat16 l1 l0⟩ = (.pack, .none) := by
      rw [hplan, hfifo, dispose_dry hs hw, if_neg (Nat.not_le.2 hroom)]
    refine hrun ((countAndDispose_packed hdrawn hpack).trans ?_) hdraw hplan
    rw [hcount, State.setCharge, State.placeBoard, readyAfterEntering_succ]
    dsimp only
    rw [hfifo, hready, hcharges, hplan]
    rfl

end Sys2Proof.Machine
end

-- ==== Proofs: what leaves the packs and the label queue alone ====
section
/-! The commands outside chapters 6 to 8, and most inside them, leave the pack plan, the FIFO, the packs and the label queue as
they are. -/

namespace Sys2Proof.Machine

/-- The pack plan, the FIFO records, the packs and the label queue: what the ranges of R112, R122 and R129 and the order of R143
are about. -/
structure Packing where
  plan : PackPlan
  fifo : List BoardRecord
  packs : Vector (Option Pack) 16
  labelQueue : List (Fin 16)

/-- The plan, the FIFO, the packs and the label queue as they stand. -/
def State.packing (s : State) : Packing := ⟨s.plan, s.fifo, s.packs, s.labelQueue⟩

section
variable {s t : State} {c : ChamberNo}

theorem packing_ite {p : Prop} [Decidable p] {u : State} (ht : t.packing = s.packing) (hu : u.packing = s.packing) :
    (if p then t else u).packing = s.packing :=
  ite_keeps (P := fun t => t.packing = s.packing) ht hu

theorem checkBlocked_packing (s : State) : s.checkBlocked.packing = s.packing := by
  obtain h | ⟨-, -, h⟩ := checkBlocked_cases s <;> rw [h]
  rfl

/-! ### Runs -/

@[simp] theorem modChamber_packing (s : State) (c : ChamberNo) (f : Chamber → Chamber) :
    (s.modChamber c f).packing = s.packing := rfl
@[simp] theorem setChamber_packing (s : State) (c : ChamberNo) (x : Chamber) : (s.setChamber c x).packing = s.packing := rfl
@[simp] theorem setBank_packing (s : State) (c : ChamberNo) (b : ProbeBank) : (s.setBank c b).packing = s.packing := rfl
@[simp] theorem setRing_packing (s : State) (c : ChamberNo) (r : EventRing) : (s.setRing c r).packing = s.packing := rfl
@[simp] theorem modCharge_packing (s : State) (k : Fin 8) (f : Charge → Charge) : (s.modCharge k f).packing = s.packing := rfl
@[simp] theorem setMonitor_packing (s : State) (c : ChamberNo) (d : DoorMonitor) : (s.setMonitor c d).packing = s.packing := rfl
@[simp] theorem modBound_packing (s : State) (c : ChamberNo) (f : Charge → Charge) : (s.modBound c f).packing = s.packing := rfl
@[simp] theorem raise_packing (s : State) (n : Notice) : (s.raise n).packing = s.packing := rfl
@[simp] theorem offer_packing (s : State) (c : ChamberNo) (ev : Event) : (s.offer c ev).packing = s.packing := rfl

@[simp] theorem computeStats_packing (s : State) (c : ChamberNo) : (s.computeStats c).packing = s.packing := rfl

@[simp] theorem statsStage_packing (s : State) (c : ChamberNo) : (s.statsStage c).packing = s.packing := by
  simp [State.statsStage]

@[simp] theorem blindHold_packing (s : State) (c : ChamberNo) : (s.blindHold c).packing = s.packing := by
  simp [State.blindHold]

@[simp] theorem stepChange_packing (s : State) (c : ChamberNo) (i : Nat) (st : Step) :
    (s.stepChange c i st).packing = s.packing := rfl
@[simp] theorem intoCooling_packing (s : State) (c : ChamberNo) (coolTemp : Nat) :
    (s.intoCooling c coolTemp).packing = s.packing := rfl

@[simp] theorem complete_packing (s : State) (c : ChamberNo) : (s.complete c).packing = s.packing := by
  simp [State.complete]

theorem beginRun_packing (s : State) (c : ChamberNo) (origin : Port) (i : Nat) (st : Step) :
    (s.beginRun c origin i st).packing = s.packing := by
  simp [State.beginRun]

theorem bind_packing (s : State) (c : ChamberNo) (k : Fin 8) : (s.bind c k).packing = s.packing := by
  simp [State.bind]


@[simp] theorem countStage_packing (s : State) (c : ChamberNo) : (s.countStage c).packing = s.packing := by
  unfold State.countStage
  exact packing_ite (by simp) (by simp)

@[simp] theorem coolingEvents_packing (s : State) (c : ChamberNo) (cause : CoolingCause) (coolTime : Nat) :
    (s.coolingEvents c cause coolTime).packing = s.packing := by
  have hevents : (if cause = .abort then s.offer c (.cooling cause) else (s.offer c (.cooling cause)).raise .step).packing =
      s.packing := packing_ite (by simp) (by simp)
  exact packing_ite ((complete_packing _ c).trans hevents) hevents

theorem abortRun_packing (s : State) (c : ChamberNo) (sch : Schedule) : (s.abortRun c sch).packing = s.packing := by
  simp [State.abortRun]

@[simp] theorem manualAdvance_packing (s : State) (c : ChamberNo) (v : RunView) (cmd : RunCommand) (cause : CoolingCause)
    (next : Option (Nat × Step)) : (s.manualAdvance c v cmd cause next).packing = s.packing := by
  cases next <;> simp [State.manualAdvance]

@[simp] theorem carryOut_packing (s : State) (c : ChamberNo) (v : RunView) (cmd : RunCommand) :
    (s.carryOut c v cmd).packing = s.packing := by
  cases cmd with
  | hold | resume => exact packing_ite (by simp) (by simp)
  | step | skipPhase => exact manualAdvance_packing s c v _ _ _

@[simp] theorem commandStage_packing (s : State) (c : ChamberNo) (v : RunView) : (s.commandStage c v).packing = s.packing := by
  unfold State.commandStage
  dsimp only
  split <;> simp

@[simp] theorem runStage_packing (s : State) (c : ChamberNo) (v : RunView) (loaded : Nat) :
    (s.runStage c v loaded).packing = s.packing := by
  unfold State.runStage
  dsimp only
  split
  · split <;> simp
  · simp

@[simp] theorem coolingStage_packing (s : State) (c : ChamberNo) (v : RunView) (loaded : Nat) :
    (s.coolingStage c v loaded).packing = s.packing := packing_ite (by simp) (by simp)

@[simp] theorem countdownStage_packing (s : State) (c : ChamberNo) : (s.countdownStage c).packing = s.packing :=
  packing_ite rfl (by simp)

theorem evaluate_packing (s : State) (c : ChamberNo) (v : RunView) (loaded : Nat) :
    (s.evaluate c v loaded).packing = s.packing := by
  simp [State.evaluate, apply_ite State.packing]

/-! ### Doors and readings -/

@[simp] theorem beginHold_packing (s : State) (c : ChamberNo) (ret : ReturnState) : (s.beginHold c ret).packing = s.packing := by
  simp [State.beginHold]

@[simp] theorem endHold_packing (s : State) (c : ChamberNo) (h : DoorHold) (ret : ChamberState) :
    (s.endHold c h ret).packing = s.packing := by
  simp [State.endHold, apply_ite State.packing]

@[simp] theorem opened_packing (s : State) (c : ChamberNo) : (s.opened c).packing = s.packing := by
  unfold State.opened
  split <;> simp

@[simp] theorem shut_packing (s : State) (c : ChamberNo) : (s.shut c).packing = s.packing := by
  unfold State.shut
  split <;> simp

theorem acceptDoor_packing (s : State) (c : ChamberNo) (level : DoorLevel) : (s.acceptDoor c level).packing = s.packing := by
  cases level <;> simp [State.acceptDoor]

theorem sampleDoor_packing (s : State) (c : ChamberNo) (level : DoorLevel) : (s.sampleDoor c level).packing = s.packing := by
  unfold State.sampleDoor
  dsimp only
  split
  · rfl
  · split
    · rfl
    · exact packing_ite (acceptDoor_packing _ c level) rfl

theorem sampleReading_packing {i : Fin 16} {code : Nat} (h : sampleReading c i code s = some t) : t.packing = s.packing := by
  unfold sampleReading at h
  dsimp only at h
  split at h
  · cases h; rfl
  · split at h
    · cases h
      split <;> rfl
    · obtain ⟨sp, -, rfl⟩ := Option.map_eq_some_iff.1 h
      rfl

theorem dryBulbReading_packing (s : State) (c : ChamberNo) (code : Nat) : (dryBulbReading c code s).packing = s.packing := by
  unfold dryBulbReading
  dsimp only
  repeat' split
  all_goals rfl

theorem takeReading_packing {chamber channel code : Nat} (h : takeReading chamber channel code s = some t) :
    t.packing = s.packing := by
  unfold takeReading at h
  split at h
  · split at h
    · exact sampleReading_packing h
    · split at h <;> cases h
      · exact dryBulbReading_packing s _ code
      · rfl
  · cases h; rfl

/-! ### The return of main power -/

@[simp] theorem doorAtReturn_packing (s : State) (c : ChamberNo) : (s.doorAtReturn c).packing = s.packing := by
  unfold State.doorAtReturn
  split <;> rfl

@[simp] theorem chamberReturn_packing (s : State) (c : ChamberNo) (level : DoorLevel) :
    (s.chamberReturn c level).packing = s.packing := by
  simp [State.chamberReturn, apply_ite State.packing]

theorem powerReturn_packing (s : State) (d0 d1 d2 d3 : DoorLevel) : (s.powerReturn d0 d1 d2 d3).packing = s.packing := by
  simp only [State.powerReturn, chamberReturn_packing]
  rfl

/-! ### Owners of requests -/

/-- What an owner answers, if it answers, has the plan, the FIFO, the packs and the label queue of `s`. -/
abbrev LeavesPacking (s : State) (o : Owned) : Prop := Answered (fun t => t.packing = s.packing) o

theorem loadOwner_leavesPacking (params : List Byte) : LeavesPacking s (loadOwner params s) := by
  unfold loadOwner
  split
  · refine answered_withChamber rfl fun c => ?_
    split
    · exact answered_some rfl
    · split
      · exact answered_some rfl
      · split
        · exact answered_some rfl
        · exact answered_some (bind_packing s c _)
  · exact answered_some rfl

theorem startOwner_leavesPacking (origin : Port) (params : List Byte) : LeavesPacking s (startOwner origin params s) := by
  unfold startOwner
  split
  · refine answered_withChamber rfl fun c => ?_
    split
    · exact answered_some rfl
    · split
      · exact answered_some rfl
      · split
        · exact answered_none
        · dsimp only
          split
          · exact answered_none
          · exact answered_some ((beginRun_packing _ c origin _ _).trans (computeStats_packing s c))
  · exact answered_some rfl

theorem abortOwner_leavesPacking (params : List Byte) : LeavesPacking s (abortOwner params s) := by
  unfold abortOwner
  split
  · refine answered_withChamber rfl fun c => ?_
    split
    · exact answered_some rfl
    · split
      · exact answered_none
      · exact answered_some (abortRun_packing s c _)
  · exact answered_some rfl

theorem releaseOwner_leavesPacking (params : List Byte) : LeavesPacking s (releaseOwner params s) := by
  unfold releaseOwner
  split
  · refine answered_withChamber rfl fun c => ?_
    split
    · exact answered_some rfl
    · split
      · exact answered_none
      · exact answered_some rfl
  · exact answered_some rfl

theorem queueOwner_leavesPacking (cmd : RunCommand) (params : List Byte) : LeavesPacking s (queueOwner cmd params s) := by
  unfold queueOwner
  split
  · refine answered_withChamber rfl fun c => ?_
    dsimp only
    repeat' split
    all_goals exact answered_some rfl
  · exact answered_some rfl

theorem chamberSetOwner_leavesPacking (params : List Byte) : LeavesPacking s (chamberSetOwner params s) := by
  unfold chamberSetOwner
  split
  · refine answered_withChamber rfl fun c => ?_
    split
    all_goals exact answered_some rfl
  · exact answered_some rfl

theorem markOwner_leavesPacking (origin : Port) (params : List Byte) : LeavesPacking s (markOwner origin params s) := by
  unfold markOwner
  split
  · refine answered_withChamber rfl fun c => ?_
    dsimp only
    split
    all_goals exact answered_some rfl
  · exact answered_some rfl

theorem probeEnableOwner_leavesPacking (params : List Byte) : LeavesPacking s (probeEnableOwner params s) := by
  unfold probeEnableOwner
  split
  · exact answered_withChamber rfl fun _ => answered_some rfl
  · exact answered_some rfl

theorem endDrawOwner_leavesPacking : LeavesPacking s (endDrawOwner s) := by
  unfold endDrawOwner
  split
  · split
    · exact answered_some rfl
    · split
      · exact answered_none
      · exact answered_some rfl
  · exact answered_some rfl

theorem reprintOwner_leavesPacking (params : List Byte) : LeavesPacking s (reprintOwner params s) := by
  unfold reprintOwner
  split
  · dsimp only
    split
    · exact answered_some rfl
    · split
      · exact answered_some rfl
      · split
        · exact answered_none
        · exact answered_some rfl
  · exact answered_some rfl

/-! The other owners read no link: each of their branches answers with a state in which plan, FIFO, packs and label queue
stand. -/

theorem checkOwner_leavesPacking (params : List Byte) : LeavesPacking s (checkOwner params s) := by
  unfold checkOwner
  repeat' split
  all_goals exact answered_some rfl

theorem drawOwner_leavesPacking (params : List Byte) : LeavesPacking s (drawOwner params s) := by
  unfold drawOwner
  repeat' split
  all_goals exact answered_some rfl

theorem newChargeOwner_leavesPacking (params : List Byte) : LeavesPacking s (newChargeOwner params s) := by
  unfold newChargeOwner createCharge
  dsimp only
  repeat' split
  all_goals exact answered_some rfl

theorem deleteChargeOwner_leavesPacking (params : List Byte) : LeavesPacking s (deleteChargeOwner params s) := by
  unfold deleteChargeOwner
  repeat' split
  all_goals exact answered_some rfl

theorem writeOwner_leavesPacking (p : Port) (params : List Byte) : LeavesPacking s (writeOwner p params s) := by
  unfold writeOwner writeStagingOwner writeSpeciesOwner
  dsimp only
  repeat' split
  all_goals exact answered_some rfl

theorem commitScheduleOwner_leavesPacking (params : List Byte) : LeavesPacking s (commitScheduleOwner params s) := by
  unfold commitScheduleOwner
  repeat' split
  all_goals exact answered_some rfl

theorem clearScheduleOwner_leavesPacking (params : List Byte) : LeavesPacking s (clearScheduleOwner params s) := by
  unfold clearScheduleOwner
  repeat' split
  all_goals exact answered_some rfl

theorem setTimeOwner_leavesPacking (params : List Byte) : LeavesPacking s (setTimeOwner params s) := by
  unfold setTimeOwner
  split
  all_goals exact answered_some rfl

theorem setCursorOwner_leavesPacking (p : Port) (params : List Byte) : LeavesPacking s (setCursorOwner p params s) := by
  unfold setCursorOwner
  repeat' split
  all_goals exact answered_some rfl

theorem readOwner_leavesPacking (p : Port) : LeavesPacking s (readOwner p s) := by
  unfold readOwner
  dsimp only
  split
  all_goals exact answered_some rfl

theorem setNoticeMaskOwner_leavesPacking (p : Port) (params : List Byte) : LeavesPacking s (setNoticeMaskOwner p params s) := by
  unfold setNoticeMaskOwner
  dsimp only
  repeat' split
  all_goals exact answered_some rfl

/-! ### Every command -/

/-- The commands that can change the plan, the FIFO, a pack or the label queue: board frames, the tally's own operations,
PACK-PLAN, CLOSE-PACK, NEXT-LABEL and ACK-LABEL, and what empties the working tables. -/
def actsOnPacking : Instr → Bool
  | .boardFrame .. | .tallyMove | .drawEnd | .lineSilenceExpiry | .packPlan .. | .closePack .. | .nextLabel .. | .ackLabel ..
  | .powerReturn .. | .clearedStart .. | .clearReset => true
  | _ => false

theorem request_packing {r : Request} {p : Port} {tag : Byte} {owner : State → Owned} (ho : LeavesPacking s (owner s))
    (h : request r p tag owner s = .next t) : t.packing = s.packing :=
  request_keeps (P := fun t => t.packing = s.packing) (fun _ _ h => h) rfl ho h

theorem whilePowered_packing {o : Host.Outcome State Fault Refusal} (ho : o = .next t → t.packing = s.packing)
    (h : whilePowered s o = .next t) : t.packing = s.packing :=
  whilePowered_keeps (P := fun t => t.packing = s.packing) rfl ho h

theorem next_packing {u : State} (hu : u.packing = s.packing) (h : Host.Outcome.next (φ := Fault) (ρ := Refusal) u = .next t) :
    t.packing = s.packing :=
  next_keeps (P := fun t => t.packing = s.packing) hu h

/-- An event taken while main power is on that changes `s` where a test holds. -/
theorem whilePowered_ite_packing {u : State} {p : Prop} [Decidable p] (h : whilePowered s (.next (if p then u else s)) = .next t)
    (hu : u.packing = s.packing) : t.packing = s.packing :=
  whilePowered_packing (next_packing (packing_ite hu rfl)) h

theorem execUnknownRequest_packing {p : Port} {code tag : Byte} (h : execUnknownRequest p code tag s = .next t) :
    t.packing = s.packing := by
  unfold execUnknownRequest at h
  split at h
  · cases h
  · split at h <;> cases h <;> rfl

theorem execProbeFrame_packing {chamber channel high low check : Byte}
    (h : execProbeFrame chamber channel high low check s = .next t) : t.packing = s.packing := by
  unfold execProbeFrame at h
  split at h
  · split at h
    · have hs : { s with probeRx := .hunt }.packing = s.packing := rfl
      exact (takeReading_packing (orBroken_eq_next.1 h)).trans hs
    · cases h; rfl
  · cases h; rfl

theorem execEvaluationInstant_packing (h : execEvaluationInstant c s = .next t) : t.packing = s.packing := by
  refine whilePowered_packing (fun h => ?_) h
  split at h
  · split at h
    · obtain ⟨v, -, rfl⟩ := Option.map_eq_some_iff.1 (orBroken_eq_next.1 h)
      exact evaluate_packing s c v _
    · cases h; rfl
  · cases h; rfl

theorem execMillTimeWrap_packing (h : execMillTimeWrap s = .next t) : t.packing = s.packing := by
  refine next_packing (packing_ite (packing_ite ?_ ?_) ?_) h
  all_goals rfl

/-- Every other command leaves the plan, the FIFO, the packs and the label queue as they are. -/
theorem exec_packing {i : Instr} (hi : actsOnPacking i = false) (h : exec i s = .next t) : t.packing = s.packing := by
  cases i with
  | boardFrame | tallyMove | drawEnd | lineSilenceExpiry | packPlan | closePack | nextLabel | ackLabel | powerReturn
  | clearedStart | clearReset => cases hi
  | load _ _ ps => exact request_packing (loadOwner_leavesPacking ps) h
  | start p _ ps => exact request_packing (startOwner_leavesPacking p ps) h
  | hold _ _ ps => exact request_packing (queueOwner_leavesPacking .hold ps) h
  | resume _ _ ps => exact request_packing (queueOwner_leavesPacking .resume ps) h
  | step _ _ ps => exact request_packing (queueOwner_leavesPacking .step ps) h
  | skipPhase _ _ ps => exact request_packing (queueOwner_leavesPacking .skipPhase ps) h
  | abort _ _ ps => exact request_packing (abortOwner_leavesPacking ps) h
  | release _ _ ps => exact request_packing (releaseOwner_leavesPacking ps) h
  | check _ _ ps => exact request_packing (checkOwner_leavesPacking ps) h
  | probeEnable _ _ ps => exact request_packing (probeEnableOwner_leavesPacking ps) h
  | chamberSet _ _ ps => exact request_packing (chamberSetOwner_leavesPacking ps) h
  | draw _ _ ps => exact request_packing (drawOwner_leavesPacking ps) h
  | endDraw => exact request_packing endDrawOwner_leavesPacking h
  | newCharge _ _ ps => exact request_packing (newChargeOwner_leavesPacking ps) h
  | deleteCharge _ _ ps => exact request_packing (deleteChargeOwner_leavesPacking ps) h
  | writeStaging p _ ps => exact request_packing (writeOwner_leavesPacking p ps) h
  | writeSpecies p _ ps => exact request_packing (writeOwner_leavesPacking p ps) h
  | commitSchedule _ _ ps => exact request_packing (commitScheduleOwner_leavesPacking ps) h
  | clearSchedule _ _ ps => exact request_packing (clearScheduleOwner_leavesPacking ps) h
  | reprint _ _ ps => exact request_packing (reprintOwner_leavesPacking ps) h
  | setTime _ _ ps => exact request_packing (setTimeOwner_leavesPacking ps) h
  | setCursor p _ ps => exact request_packing (setCursorOwner_leavesPacking p ps) h
  | read p => exact request_packing (readOwner_leavesPacking p) h
  | readNotices p => exact request_packing (owner := readNoticesOwner p) (answered_some rfl) h
  | setNoticeMask p _ ps => exact request_packing (setNoticeMaskOwner_leavesPacking p ps) h
  | status p => exact request_packing (owner := fun s => took s (s.statusResults p)) (answered_some rfl) h
  | mark p _ ps => exact request_packing (markOwner_leavesPacking p ps) h
  | unknownRequest => exact execUnknownRequest_packing h
  | requestFrameCrcFail | portFrameBadLength | vbatRangeChange => cases h; split <;> rfl
  | probeFrame => exact execProbeFrame_packing h
  | evaluationInstant => exact execEvaluationInstant_packing h
  | doorInputChange c level => exact whilePowered_packing (next_packing (sampleDoor_packing s c level)) h
  | doorDebounceExpiry c => exact whilePowered_ite_packing h (acceptDoor_packing s c _)
  | millTimeWrap => exact execMillTimeWrap_packing h
  | mainPowerLoss | portReset => exact whilePowered_packing (fun h => by cases h; rfl) h
  | portFrameWindowExpiry | responseSent | probeFrameWindowExpiry | boardFrameWindowExpiry | doorLimitPassed | portStartByte
  | probeStartByte | boardStartByte => exact whilePowered_ite_packing h rfl

theorem idle_packing (s : State) : s.idle.packing = s.packing := by
  unfold State.idle
  split
  · exact packing_ite rfl rfl
  · rfl

end

end Sys2Proof.Machine
end

-- ==== Proofs: packs stay in range and the label queue in order ====
section
/-! R112, R122, R129, R131, R143: what a command can do to the plan, the FIFO, the packs and the label queue, each kind named
once; the ranges and the order of the queue are then shown for each kind. -/

namespace Sys2Proof.Machine

/-! ### Ranges -/

/-- R112: the ranges of a FIFO record. -/
def BoardRecord.InRange (b : BoardRecord) : Prop := (60 ≤ b.length ∧ b.length ≤ 900) ∧ ∀ m ∈ b.mc, m ≤ 600

/-- R129: what the boards of a pack allow. -/
def Pack.SumsInRange (p : Pack) : Prop :=
  p.boards = p.measured + p.unmeasured ∧ p.mcSum ≤ 600 * p.measured ∧ p.totalLength ≤ 900 * p.boards ∧ ∀ m ∈ p.maxMc, m ≤ 600

/-- R129, R131: the ranges of a pack. -/
def Pack.InRange (p : Pack) : Prop :=
  p.SumsInRange ∧ (1 ≤ p.boards ∧ p.boards ≤ p.target ∧ p.target ≤ 500) ∧ (p.state = .opened → p.boards < p.target)

/-- A pack that one more board can join (R129). -/
def Pack.HasRoom (p : Pack) : Prop := p.SumsInRange ∧ p.boards < p.target ∧ p.target ≤ 500

theorem Pack.InRange.hasRoom {p : Pack} (h : p.InRange) (ho : p.state = .opened) : p.HasRoom :=
  let ⟨hsums, ⟨_, _, htop⟩, hopen⟩ := h
  ⟨hsums, hopen ho, htop⟩

/-- A pack begun on a plan in range has room: its target is at least 10 (R122). -/
theorem begun_hasRoom {number : Nat} {slot : Fin 8} {ch : Charge} {plan : PackPlan} {now : Stamp} (h : plan.InRange) :
    (Pack.begun number slot ch plan now).HasRoom := by
  obtain ⟨-, -, ⟨hlow, htop⟩, -⟩ := h
  refine ⟨⟨rfl, Nat.le_refl _, Nat.le_refl _, nofun⟩, ?_, htop⟩
  show 0 < plan.target
  omega

theorem add_sumsInRange {p : Pack} {b : BoardRecord} (hp : p.SumsInRange) (hb : b.InRange) : (p.add b).SumsInRange := by
  obtain ⟨hboards, hsum, hlength, hmax⟩ := hp
  obtain ⟨⟨-, hlong⟩, hmc⟩ := hb
  unfold Pack.add Pack.SumsInRange
  cases hm : b.mc with
  | none =>
    dsimp only
    exact ⟨by omega, hsum, by omega, hmax⟩
  | some m =>
    have hm : m ≤ 600 := hmc m hm
    dsimp only
    refine ⟨by omega, by omega, by omega, fun x hx => ?_⟩
    obtain rfl := Option.some.inj hx
    cases hmx : p.maxMc with
    | none => exact hm
    | some top => exact Nat.max_le.2 ⟨hmax top hmx, hm⟩

theorem add_boards (p : Pack) (b : BoardRecord) : (p.add b).boards = p.boards + 1 := by
  unfold Pack.add
  cases b.mc <;> rfl

theorem add_target (p : Pack) (b : BoardRecord) : (p.add b).target = p.target := by
  unfold Pack.add
  cases b.mc <;> rfl

/-- A board that does not bring its pack to the target leaves it in range (R129). -/
theorem Pack.HasRoom.add_inRange {p : Pack} {b : BoardRecord} (hp : p.HasRoom) (hb : b.InRange)
    (hne : (p.add b).boards ≠ (p.add b).target) : (p.add b).InRange := by
  obtain ⟨hsums, hlt, htop⟩ := hp
  refine ⟨add_sumsInRange hsums hb, ?_⟩
  rw [add_boards, add_target] at *
  omega

/-- A pack that its board brings to the target is in range once it is closed (R129, R131). -/
theorem Pack.HasRoom.add_closed_inRange {p : Pack} {b : BoardRecord} (l : Label) (hp : p.HasRoom) (hb : b.InRange) :
    ((p.add b).closed l).InRange := by
  obtain ⟨hsums, hlt, htop⟩ := hp
  refine ⟨add_sumsInRange hsums hb, ?_, nofun⟩
  show 1 ≤ (p.add b).boards ∧ (p.add b).boards ≤ (p.add b).target ∧ (p.add b).target ≤ 500
  rw [add_boards, add_target]
  omega

/-- A pack's state bears on its ranges only through OPEN. -/
theorem Pack.InRange.closed {p : Pack} (l : Label) (h : p.InRange) : (p.closed l).InRange :=
  let ⟨hsums, hboards, _⟩ := h
  ⟨hsums, hboards, nofun⟩

theorem Pack.InRange.issued {p : Pack} (h : p.InRange) : { p with state := .issued }.InRange :=
  let ⟨hsums, hboards, _⟩ := h
  ⟨hsums, hboards, nofun⟩

/-- R122, R123: a plan that passes the checks is in range. -/
theorem checkPlan_inRange {thickness width target minLength nominal idle silence : Nat} {plan : PackPlan}
    (h : checkPlan thickness width target minLength nominal idle silence = .ok plan) : plan.InRange := by
  unfold checkPlan at h
  repeat' split at h
  all_goals cases h
  simp_all [PackPlan.InRange]

/-! ### The packing -/

namespace Packing

/-- The pack in a slot. -/
def pack (y : Packing) (k : Fin 16) : Option Pack := y.packs[k]

/-- The pack in a slot replaced. -/
def setPack (k : Fin 16) (x : Option Pack) (y : Packing) : Packing := { y with packs := y.packs.set k x }

theorem pack_setPack (y : Packing) (k j : Fin 16) (x : Option Pack) :
    (y.setPack k x).pack j = if k = j then x else y.pack j := by
  by_cases h : k = j
  · subst h
    simp [pack, setPack]
  · rw [if_neg h]
    simp only [pack, setPack, Fin.getElem_fin]
    exact Vector.getElem_set_ne _ _ fun e => h (Fin.ext e)

theorem setPack_setPack (y : Packing) (k : Fin 16) (x z : Option Pack) : (y.setPack k x).setPack k z = y.setPack k z := by
  simp [setPack]

/-- The pack a tally move adds its board to: the OPEN one of a slot, or one begun there on the plan as it stands (R127, R128). -/
def Takes (y : Packing) (k : Fin 16) (p : Pack) : Prop :=
  p.state = .opened ∧ (y.pack k = some p ∨
    y.pack k = none ∧ ∃ number slot ch now, p = Pack.begun number slot ch y.plan now)

/-- Everything a command can do to the plan, the FIFO, the packs and the label queue. -/
inductive Change : Packing → Packing → Prop
  | kept {y : Packing} : Change y y
  /-- PACK-PLAN (R123). -/
  | planned {y : Packing} {plan : PackPlan} (h : plan.InRange) : Change y { y with plan := plan }
  /-- A board that goes to a pack joins the FIFO (R110, R112). -/
  | placed {y : Packing} {r : BoardRecord} (h : y.plan.InRange → r.InRange) : Change y { y with fifo := y.fifo ++ [r] }
  /-- A tally move that leaves the pack OPEN (R127 to R129). -/
  | moved {y : Packing} {b : BoardRecord} {rest : List BoardRecord} {k : Fin 16} {p : Pack} (hf : y.fifo = b :: rest)
      (hp : y.Takes k p) (hne : (p.add b).boards ≠ (p.add b).target) :
      Change y { y.setPack k (some (p.add b)) with fifo := rest }
  /-- A tally move whose board brings the pack to its target (R129, R131). -/
  | filled {y : Packing} {b : BoardRecord} {rest : List BoardRecord} {k : Fin 16} {p : Pack} {l : Label}
      (hf : y.fifo = b :: rest) (hp : y.Takes k p) :
      Change y { y.setPack k (some ((p.add b).closed l)) with fifo := rest, labelQueue := y.labelQueue ++ [k] }
  /-- A close of the OPEN pack (R131). -/
  | closed {y : Packing} {k : Fin 16} {p : Pack} {l : Label} (hk : y.pack k = some p) (ho : p.state = .opened) :
      Change y { y.setPack k (some (p.closed l)) with labelQueue := y.labelQueue ++ [k] }
  /-- NEXT-LABEL (R144): the oldest CLOSED pack of the queue is ISSUED. -/
  | issued {y : Packing} {k : Fin 16} {p : Pack} {older newer : List (Fin 16)} (hq : y.labelQueue = older ++ k :: newer)
      (hk : y.pack k = some p) (hp : p.state = .closed) (hold : ∀ j ∈ older, ∀ q, y.pack j = some q → q.state ≠ .closed) :
      Change y (y.setPack k (some { p with state := .issued }))
  /-- ACK-LABEL (R145). -/
  | acked {y : Packing} {k : Fin 16} :
      Change y { y.setPack k none with labelQueue := y.labelQueue.filter (· != k) }
  /-- The working tables emptied (R170, R172). -/
  | emptied {y : Packing} {plan : PackPlan} (h : plan = y.plan ∨ plan = .default) :
      Change y ⟨plan, [], Vector.replicate 16 none, []⟩

/-! ### Ranges of the packing -/

/-- R112, R122, R129: the plan, the FIFO records and every pack in range. -/
def InRange (y : Packing) : Prop :=
  y.plan.InRange ∧ (∀ b ∈ y.fifo, b.InRange) ∧ ∀ k p, y.pack k = some p → p.InRange

theorem Takes.hasRoom {y : Packing} {k : Fin 16} {p : Pack} (h : y.Takes k p) (hy : y.InRange) : p.HasRoom := by
  obtain ⟨hplan, -, hpacks⟩ := hy
  obtain ⟨ho, hk | ⟨-, number, slot, ch, now, rfl⟩⟩ := h
  · exact (hpacks k p hk).hasRoom ho
  · exact begun_hasRoom hplan

/-- A pack in range put in a slot. -/
theorem InRange.setPack {y : Packing} (h : y.InRange) {k : Fin 16} {x : Option Pack} (hx : ∀ p, x = some p → p.InRange)
    (j : Fin 16) (p : Pack) (hj : (y.setPack k x).pack j = some p) : p.InRange := by
  obtain ⟨-, -, hpacks⟩ := h
  rw [pack_setPack] at hj
  split at hj
  · exact hx p hj
  · exact hpacks j p hj

theorem Change.inRange {y z : Packing} (h : y.Change z) (hy : y.InRange) : z.InRange := by
  have ⟨hplan, hfifo, hpacks⟩ := hy
  cases h with
  | kept => exact hy
  | planned h => exact ⟨h, hfifo, hpacks⟩
  | placed h =>
    refine ⟨hplan, fun b hb => ?_, hpacks⟩
    obtain hb | hb := List.mem_append.1 hb
    · exact hfifo b hb
    · rw [List.mem_singleton.1 hb]
      exact h hplan
  | @moved b rest k p hf hp hne =>
    rw [hf, List.forall_mem_cons] at hfifo
    obtain ⟨hb, hrest⟩ := hfifo
    refine ⟨hplan, hrest, hy.setPack ?_⟩
    rintro _ ⟨⟩
    exact (hp.hasRoom hy).add_inRange hb hne
  | @filled b rest k p l hf hp =>
    rw [hf, List.forall_mem_cons] at hfifo
    obtain ⟨hb, hrest⟩ := hfifo
    refine ⟨hplan, hrest, hy.setPack ?_⟩
    rintro _ ⟨⟩
    exact (hp.hasRoom hy).add_closed_inRange l hb
  | @closed k p l hk ho =>
    refine ⟨hplan, hfifo, hy.setPack ?_⟩
    rintro _ ⟨⟩
    exact (hpacks k p hk).closed l
  | @issued k p older newer hq hk hp hold =>
    refine ⟨hplan, hfifo, hy.setPack ?_⟩
    rintro _ ⟨⟩
    exact (hpacks k p hk).issued
  | acked =>
    refine ⟨hplan, hfifo, hy.setPack ?_⟩
    rintro _ ⟨⟩
  | @emptied plan h =>
    refine ⟨?_, nofun, fun k p hk => by simp [pack] at hk⟩
    obtain rfl | rfl := h
    · exact hplan
    · decide

/-! ### The label queue -/

/-- A slot holds a pack in this state. -/
def Holds (y : Packing) (st : PackState) (k : Fin 16) : Prop := ∃ p, y.pack k = some p ∧ p.state = st

/-- R143: the label queue holds each CLOSED and ISSUED pack once and no other, the ISSUED ones first. -/
def Queued (y : Packing) : Prop :=
  y.labelQueue.Nodup ∧ (∀ k, k ∈ y.labelQueue ↔ y.Holds .closed k ∨ y.Holds .issued k) ∧
    y.labelQueue.Pairwise fun a b => y.Holds .issued b → y.Holds .issued a

theorem holds_of_some {y : Packing} {k : Fin 16} {p : Pack} (hk : y.pack k = some p) {st : PackState} :
    y.Holds st k ↔ p.state = st := by
  simp [Holds, hk]

theorem not_holds_of_none {y : Packing} {k : Fin 16} (hk : y.pack k = none) {st : PackState} : ¬y.Holds st k := by
  simp [Holds, hk]

theorem holds_setPack_other {y : Packing} {k j : Fin 16} (h : k ≠ j) (x : Option Pack) {st : PackState} :
    (y.setPack k x).Holds st j ↔ y.Holds st j := by
  rw [Holds, pack_setPack, if_neg h, Holds]

theorem holds_setPack_same {y : Packing} {k : Fin 16} {p : Pack} {st : PackState} :
    (y.setPack k (some p)).Holds st k ↔ p.state = st :=
  holds_of_some ((pack_setPack y k k _).trans (if_pos rfl))

/-- Only the queue and the slots of CLOSED and of ISSUED packs bear on R143. -/
theorem Queued.of_holds {y z : Packing} (h : y.Queued) (hq : z.labelQueue = y.labelQueue)
    (hc : ∀ k, z.Holds .closed k ↔ y.Holds .closed k) (hi : ∀ k, z.Holds .issued k ↔ y.Holds .issued k) : z.Queued := by
  simpa only [Queued, hq, hc, hi] using h

/-- The slot of a move's pack holds no CLOSED and no ISSUED pack. -/
theorem Takes.not_holds {y : Packing} {k : Fin 16} {p : Pack} (h : y.Takes k p) {st : PackState} (hst : st ≠ .opened) :
    ¬y.Holds st k := by
  obtain ⟨ho, hk | ⟨hk, -⟩⟩ := h
  · rw [holds_of_some hk, ho]
    exact hst.symm
  · exact not_holds_of_none hk

/-- R143: a pack that is OPEN is not in the queue. -/
theorem Queued.setPack_opened {y : Packing} {k : Fin 16} {q : Pack} (h : y.Queued)
    (hk : ∀ st, st ≠ .opened → ¬y.Holds st k) (hq : q.state = .opened) : (y.setPack k (some q)).Queued := by
  have hholds : ∀ st, st ≠ .opened → ∀ j, (y.setPack k (some q)).Holds st j ↔ y.Holds st j := by
    intro st hst j
    by_cases hkj : k = j
    · subst hkj
      rw [holds_setPack_same, hq]
      exact iff_of_false hst.symm (hk st hst)
    · exact holds_setPack_other hkj _
  exact h.of_holds rfl (hholds _ nofun) (hholds _ nofun)

/-- R131, R143: a pack that closes joins the queue as its newest. -/
theorem Queued.setPack_closed {y : Packing} {k : Fin 16} {q : Pack} (h : y.Queued)
    (hk : ∀ st, st ≠ .opened → ¬y.Holds st k) (hq : q.state = .closed) :
    { y.setPack k (some q) with labelQueue := y.labelQueue ++ [k] }.Queued := by
  obtain ⟨hnodup, hmem, hrun⟩ := h
  have hfree : k ∉ y.labelQueue := fun hin => ((hmem k).1 hin).elim (hk _ nofun) (hk _ nofun)
  have hholds : ∀ {st j}, ({ y.setPack k (some q) with labelQueue := y.labelQueue ++ [k] } : Packing).Holds st j ↔
      if k = j then .closed = st else y.Holds st j := by
    intro st j
    split
    · rename_i hkj
      subst hkj
      exact holds_setPack_same.trans (by rw [hq])
    · rename_i hkj
      exact holds_setPack_other hkj _
  refine ⟨List.nodup_append.2 ⟨hnodup, List.nodup_singleton k, ?_⟩, fun j => ?_, List.pairwise_append.2 ⟨?_, ?_, ?_⟩⟩
  · rintro a ha b hb rfl
    exact hfree (List.mem_singleton.1 hb ▸ ha)
  · rw [List.mem_append, List.mem_singleton, hmem j, hholds, hholds]
    by_cases hkj : k = j
    · simp [hkj]
    · simp [hkj, Ne.symm hkj]
  · refine hrun.imp_of_mem fun {a b} ha hb hab => ?_
    have hne : ∀ {j}, j ∈ y.labelQueue → k ≠ j := fun hj e => hfree (e ▸ hj)
    rwa [hholds, hholds, if_neg (hne ha), if_neg (hne hb)]
  · exact List.pairwise_singleton _ _
  · intro a _ b hb hib
    rw [List.mem_singleton.1 hb, hholds, if_pos rfl] at hib
    cases hib

/-- R143, R144: the oldest CLOSED pack of the queue follows the ISSUED ones. -/
theorem Queued.setPack_issued {y : Packing} {k : Fin 16} {p q : Pack} {older newer : List (Fin 16)} (h : y.Queued)
    (hqueue : y.labelQueue = older ++ k :: newer) (hk : y.pack k = some p) (hp : p.state = .closed)
    (hold : ∀ j ∈ older, ∀ q, y.pack j = some q → q.state ≠ .closed) (hq : q.state = .issued) :
    (y.setPack k (some q)).Queued := by
  obtain ⟨hnodup, hmem, hrun⟩ := h
  have hholds : ∀ {st j}, (y.setPack k (some q)).Holds st j ↔ if k = j then .issued = st else y.Holds st j := by
    intro st j
    split
    · rename_i hkj
      subst hkj
      rw [holds_setPack_same, hq]
    · rename_i hkj
      exact holds_setPack_other hkj _
  have hissued : ∀ j ∈ older, y.Holds .issued j := by
    intro j hj
    refine ((hmem j).1 (hqueue ▸ List.mem_append_left _ hj)).resolve_left ?_
    rintro ⟨x, hx, hxc⟩
    exact hold j hj x hx hxc
  have hissue : ∀ {j}, y.Holds .issued j → (y.setPack k (some q)).Holds .issued j := by
    intro j hj
    rw [hholds]
    split
    · rfl
    · exact hj
  refine ⟨hnodup, fun j => ?_, ?_⟩
  · show j ∈ y.labelQueue ↔ _
    rw [hmem j, hholds, hholds]
    split
    · rename_i hkj
      subst hkj
      rw [holds_of_some hk, holds_of_some hk, hp]
      simp
    · rfl
  · show y.labelQueue.Pairwise _
    rw [hqueue] at hrun hnodup ⊢
    obtain ⟨hrunOlder, hrunNewer, -⟩ := List.pairwise_append.1 hrun
    have hknew : k ∉ newer := (List.nodup_cons.1 (List.nodup_append.1 hnodup).2.1).1
    refine List.pairwise_append.2 ⟨hrunOlder.imp_of_mem fun ha _ _ _ => hissue (hissued _ ha),
      List.pairwise_cons.2 ⟨fun _ _ _ => holds_setPack_same.2 hq, ?_⟩, fun a ha _ _ _ => hissue (hissued a ha)⟩
    refine (List.pairwise_cons.1 hrunNewer).2.imp_of_mem fun {a b} _ hb hab hib => hissue (hab ?_)
    rwa [hholds, if_neg fun e => hknew (by rwa [e])] at hib

/-- R145: the queue without an acknowledged pack. -/
theorem Queued.setPack_none {y : Packing} (h : y.Queued) (k : Fin 16) :
    { y.setPack k none with labelQueue := y.labelQueue.filter (· != k) }.Queued := by
  obtain ⟨hnodup, hmem, hrun⟩ := h
  have hholds : ∀ {st j}, ({ y.setPack k none with labelQueue := y.labelQueue.filter (· != k) } : Packing).Holds st j ↔
      k ≠ j ∧ y.Holds st j := by
    intro st j
    by_cases hkj : k = j
    · subst hkj
      exact iff_of_false (not_holds_of_none ((pack_setPack y k k _).trans (if_pos rfl))) fun h => h.1 rfl
    · exact (holds_setPack_other hkj _).trans (iff_and_self.2 fun _ => hkj)
  refine ⟨hnodup.filter _, fun j => ?_, (hrun.filter _).imp_of_mem fun {a b} ha _ hab => ?_⟩
  · rw [List.mem_filter, hmem j, hholds, hholds, bne_iff_ne, ← and_or_left, and_comm, ne_comm]
  · rw [hholds, hholds]
    obtain ⟨-, ha⟩ := List.mem_filter.1 ha
    rw [bne_iff_ne] at ha
    exact fun ⟨_, hb⟩ => ⟨ha.symm, hab hb⟩

theorem Change.queued {y z : Packing} (h : y.Change z) (hy : y.Queued) : z.Queued := by
  cases h with
  | kept => exact hy
  | planned | placed => exact hy
  | moved hf hp hne => exact hy.setPack_opened (fun _ => hp.not_holds) ((add_state _ _).trans hp.1)
  | filled hf hp => exact hy.setPack_closed (fun _ => hp.not_holds) rfl
  | closed hk ho => exact hy.setPack_closed (fun _ hst => by rw [holds_of_some hk, ho]; exact hst.symm) rfl
  | issued hq hk hp hold => exact hy.setPack_issued hq hk hp hold rfl
  | acked => exact hy.setPack_none _
  | @emptied plan =>
    have hnone : ∀ {st k}, ¬(⟨plan, [], Vector.replicate 16 none, []⟩ : Packing).Holds st k :=
      not_holds_of_none (by simp [pack])
    exact ⟨List.nodup_nil, fun k => iff_of_false nofun (not_or.2 ⟨hnone, hnone⟩), .nil⟩

end Packing

end Sys2Proof.Machine
end

-- ==== Proofs: what each command does to packs and labels ====
section
/-! Chapters 6 to 8: each command makes one of the kinds of change to the plan, the FIFO, the packs and the label queue. -/

namespace Sys2Proof.Machine

/-! ### What the invariants say of the packing -/

theorem packsInRange_iff {s : State} : s.PacksInRange ↔ s.packing.InRange := by
  refine and_congr_right fun _ => and_congr_right fun _ => forall_congr' fun k => forall_congr' fun p =>
    imp_congr_right fun _ => ?_
  constructor
  · rintro ⟨hboards, hrange, hopen, hsum, hlength, hmax⟩
    exact ⟨⟨hboards, hsum, hlength, hmax⟩, hrange, hopen⟩
  · rintro ⟨⟨hboards, hsum, hlength, hmax⟩, hrange, hopen⟩
    exact ⟨hboards, hrange, hopen, hsum, hlength, hmax⟩

theorem packIn_iff {s : State} {st : PackState} {k : Fin 16} : s.packIn st k = true ↔ s.packing.Holds st k := by
  have hpack : s.packing.pack k = s.pack k := rfl
  rw [Packing.Holds, hpack, State.packIn]
  cases s.pack k <;> simp

theorem labelsQueued_iff {s : State} : s.LabelsQueued ↔ s.packing.Queued := by
  simp only [State.LabelsQueued, packIn_iff]
  rfl

section
variable {s t : State}

/-! ### Tally moves, closes and boards -/

theorem closePack_packing {cause : CloseCause} {k : Fin 16} {p : Pack} (h : s.closePack cause k p = some t) :
    ∃ l, t.packing = { s.packing.setPack k (some (p.closed l)) with labelQueue := s.packing.labelQueue ++ [k] } := by
  obtain ⟨v, -, rfl⟩ := closePack_some h
  exact ⟨labelOf cause s.clock p v, rfl⟩

/-- A close of the OPEN pack is one change. -/
theorem closePack_packingChange {cause : CloseCause} {k : Fin 16} {p : Pack} (hp : s.pack k = some p ∧ p.state = .opened)
    (h : s.closePack cause k p = some t) : s.packing.Change t.packing := by
  obtain ⟨hk, hst⟩ := hp
  obtain ⟨l, hl⟩ := closePack_packing h
  rw [hl]
  exact .closed hk hst

theorem endDraw_packingChange {d : Draw} (h : s.endDraw d = some t) : s.packing.Change t.packing := by
  obtain ⟨u, hu, rfl⟩ := Option.map_eq_some_iff.1 h
  rw [checkBlocked_packing]
  show s.packing.Change u.packing
  unfold State.closeOpen at hu
  split at hu
  · rename_i k p ho
    exact closePack_packingChange (openPack_some ho) hu
  · cases hu; exact .kept

theorem expireSilence_packingChange {x : Silence} (h : s.expireSilence x = some t) : s.packing.Change t.packing := by
  unfold State.expireSilence at h
  dsimp only at h
  split at h
  · cases h; exact .kept
  · rename_i k p ho
    split at h
    · obtain ⟨w, hw, rfl⟩ := Option.map_eq_some_iff.1 h
      have hopen := openPack_some ho
      rw [checkBlocked_packing]
      have hclosed : ({ s with silence := none }.raise .idle).packing.Change w.packing := closePack_packingChange hopen hw
      exact hclosed
    · cases h; exact .kept

/-- The pack of a tally move is the OPEN one or one begun in a FREE record, where the adding then replaces it (R127, R128). -/
theorem packForMove_packing {b : BoardRecord} {k : Fin 16} {p : Pack} (h : s.packForMove b = some (t, k, p)) :
    s.packing.Takes k p ∧ ∀ x, t.packing.setPack k x = s.packing.setPack k x := by
  unfold State.packForMove at h
  split at h
  · rename_i k p ho
    cases h
    obtain ⟨hk, hst⟩ := openPack_some ho
    exact ⟨⟨hst, .inl hk⟩, fun _ => rfl⟩
  · split at h
    · rename_i k ch hk hch
      cases h
      refine ⟨⟨rfl, .inr ⟨freePack_some hk, _, _, _, _, rfl⟩⟩, fun x => ?_⟩
      exact Packing.setPack_setPack s.packing k _ x
    · cases h

theorem moveBoard_packingChange {b : BoardRecord} {rest : List BoardRecord} (hf : s.fifo = b :: rest)
    (h : s.moveBoard b rest = some t) : s.packing.Change t.packing := by
  unfold State.moveBoard at h
  split at h
  · cases h
  · rename_i u k p hu
    obtain ⟨w, hw, rfl⟩ := Option.map_eq_some_iff.1 h
    obtain ⟨htakes, hset⟩ := packForMove_packing hu
    have hadd : ({ u.addBoard b rest k p with blocked := false } : State).packing =
        { s.packing.setPack k (some (p.add b)) with fifo := rest } := by
      rw [← hset]
      rfl
    rw [checkBlocked_packing]
    split at hw
    · obtain ⟨l, hl⟩ := closePack_packing hw
      have hclosed : w.packing = { s.packing.setPack k (some ((p.add b).closed l)) with
          fifo := rest, labelQueue := s.packing.labelQueue ++ [k] } := by
        rw [hl, hadd]
        simp [Packing.setPack]
      rw [hclosed]
      exact .filled hf htakes
    · rename_i hne
      cases hw
      rw [hadd]
      exact .moved hf htakes hne

/-- R103: the ranges of the fields of a board frame. -/
def Board.InRange (b : Board) : Prop := (b.length = 0 ∨ 60 ≤ b.length ∧ b.length ≤ 900) ∧ ∀ m ∈ b.mc, m ≤ 600

theorem boardOf_inRange {q m1 m0 l1 l0 ck : Byte} {b : Board} (h : boardOf q m1 m0 l1 l0 ck = some b) : b.InRange := by
  obtain ⟨-, mc, n, hmc, hlen, rfl⟩ := boardOf_eq_some.1 h
  obtain ⟨hrange, rfl⟩ := boardLength_eq_some.1 hlen
  refine ⟨hrange, fun m hm => ?_⟩
  obtain ⟨-, rfl⟩ | ⟨hle, rfl⟩ := boardMc_eq_some.1 hmc
  · cases hm
  · obtain rfl := Option.some.inj hm
    exact hle

/-- R110: a board of unknown length is recorded with the plan's nominal length. -/
theorem record_inRange {b : Board} {plan : PackPlan} (slot : Fin 8) (hb : b.InRange) (hplan : plan.InRange) :
    (b.record slot plan).InRange := by
  obtain ⟨hlen, hmc⟩ := hb
  obtain ⟨-, -, -, -, hnominal, -⟩ := hplan
  refine ⟨?_, hmc⟩
  unfold Board.record
  dsimp only
  split
  · exact hnominal
  · rename_i hne
    exact hlen.resolve_left hne

theorem countAndDispose_packingChange (s : State) (d : Draw) (ch : Charge) (rem g : Nat) {b : Board} (hb : b.InRange) :
    s.packing.Change (s.countAndDispose d ch rem g b).1.packing := by
  unfold State.countAndDispose
  dsimp only
  refine ite_keeps (P := fun t => s.packing.Change t.packing) ?_ ?_
  all_goals
    show s.packing.Change (State.packing (if (dispose ch s.plan s.fifo.length b).1 = .pack then _ else _))
    exact ite_keeps (P := fun t => s.packing.Change t.packing) (.placed (record_inRange d.slot hb)) .kept

theorem grade_packingChange {b : Board} (hb : b.InRange) (h : s.grade b = some t) : s.packing.Change t.packing := by
  unfold State.grade at h
  split at h
  · cases h; exact .kept
  · unfold State.gradeNew at h
    dsimp only at h
    have hseq : (if (sequenceGap s.lastSeq b.sequence).2 = true then s.raise .seq else s).packing = s.packing :=
      packing_ite rfl rfl
    generalize (if (sequenceGap s.lastSeq b.sequence).2 = true then s.raise .seq else s) = u at h hseq
    rw [← hseq]
    split at h
    · cases h; exact .kept
    · split at h
      · cases h; exact .kept
      · split at h
        · cases h
        · split at h <;> cases h
          rw [checkBlocked_packing]
          exact countAndDispose_packingChange u _ _ _ _ hb

/-! ### Owners of requests -/

/-- What an owner answers, if it answers, is one change away. -/
abbrev ChangesPacking (s : State) (o : Owned) : Prop := Answered (fun t => s.packing.Change t.packing) o

theorem closePackOwner_changesPacking : ChangesPacking s (closePackOwner s) := by
  unfold closePackOwner
  split
  · exact answered_some .kept
  · rename_i k p ho
    intro t a h
    obtain ⟨u, hu, he⟩ := Option.map_eq_some_iff.1 h
    obtain ⟨rfl, -⟩ := Prod.mk.inj he
    rw [checkBlocked_packing]
    exact closePack_packingChange (openPack_some ho) hu

theorem packPlanOwner_changesPacking (params : List Byte) : ChangesPacking s (packPlanOwner params s) := by
  unfold packPlanOwner
  split
  · split
    · exact answered_some .kept
    · rename_i plan hplan
      exact answered_some (.planned (checkPlan_inRange hplan))
  · exact answered_some .kept

/-- The oldest pack of the queue in a state: the older ones of the queue are not in it (R143). -/
theorem oldestInQueue_split {st : PackState} {k : Fin 16} {p : Pack} (h : s.oldestInQueue st = some (k, p)) :
    ∃ older newer, s.labelQueue = older ++ k :: newer ∧ ∀ j ∈ older, ∀ q, s.pack j = some q → q.state ≠ st := by
  obtain ⟨older, j, newer, hq, hj, hold⟩ := List.findSome?_eq_some_iff.1 h
  have hjk : j = k := by
    cases hp : s.pack j with
    | none => simp [hp] at hj
    | some x => simp [hp] at hj; exact hj.2.1
  subst hjk
  refine ⟨older, newer, hq, fun i hi q hiq hst => ?_⟩
  have := hold i hi
  simp [hiq, hst] at this

theorem nextLabelOwner_changesPacking : ChangesPacking s (nextLabelOwner s) := by
  unfold nextLabelOwner
  split
  · exact answered_some .kept
  · rename_i k p holdest
    obtain ⟨hk, hst⟩ := oldestInQueue_some holdest
    obtain ⟨older, newer, hq, hold⟩ := oldestInQueue_split holdest
    split
    · exact answered_none
    · exact answered_some (.issued hq hk hst hold)

theorem ackLabelOwner_changesPacking (params : List Byte) : ChangesPacking s (ackLabelOwner params s) := by
  unfold ackLabelOwner
  split
  · dsimp only
    split
    · exact answered_some .kept
    · split
      · exact answered_some .kept
      · split
        · exact answered_some .kept
        · exact answered_some .acked
  · exact answered_some .kept

/-! ### Every command -/

theorem request_packingChange {r : Request} {p : Port} {tag : Byte} {owner : State → Owned} (ho : ChangesPacking s (owner s))
    (h : request r p tag owner s = .next t) : s.packing.Change t.packing :=
  request_keeps (P := fun t => s.packing.Change t.packing) (fun _ _ h => h) .kept ho h

theorem whilePowered_packingChange {o : Host.Outcome State Fault Refusal} (ho : o = .next t → s.packing.Change t.packing)
    (h : whilePowered s o = .next t) : s.packing.Change t.packing :=
  whilePowered_keeps (P := fun t => s.packing.Change t.packing) .kept ho h

theorem execBoardFrame_packingChange {sequence mcHigh mcLow lengthHigh lengthLow check : Byte}
    (h : execBoardFrame sequence mcHigh mcLow lengthHigh lengthLow check s = .next t) : s.packing.Change t.packing := by
  unfold execBoardFrame at h
  split at h
  · split at h
    · rename_i b hb
      exact grade_packingChange (s := { s with boardRx := .hunt }) (boardOf_inRange hb) (orBroken_eq_next.1 h)
    · cases h; exact .kept
  · cases h; exact .kept

theorem execTallyMove_packingChange (h : execTallyMove s = .next t) : s.packing.Change t.packing := by
  refine whilePowered_packingChange (fun h => ?_) h
  split at h
  · split at h
    · rename_i hf
      exact moveBoard_packingChange hf (orBroken_eq_next.1 h)
    · cases h; exact .kept
  · cases h; exact .kept

theorem execDrawEnd_packingChange (h : execDrawEnd s = .next t) : s.packing.Change t.packing := by
  refine whilePowered_packingChange (fun h => ?_) h
  split at h
  · split at h
    · exact endDraw_packingChange (orBroken_eq_next.1 h)
    · cases h; exact .kept
  · cases h; exact .kept

theorem execLineSilenceExpiry_packingChange (h : execLineSilenceExpiry s = .next t) : s.packing.Change t.packing := by
  refine whilePowered_packingChange (fun h => ?_) h
  split at h
  · split at h
    · exact expireSilence_packingChange (orBroken_eq_next.1 h)
    · cases h; exact .kept
  · cases h; exact .kept

theorem mainReturns_packingChange (s : State) (d0 d1 d2 d3 : DoorLevel) :
    s.packing.Change (s.mainReturns d0 d1 d2 d3).packing := by
  unfold State.mainReturns
  split
  · rw [powerReturn_packing]
    exact .kept
  · exact .emptied (.inr rfl)

/-- What every command does to the plan, the FIFO, the packs and the label queue is one change. -/
theorem exec_packingChange {i : Instr} (h : exec i s = .next t) : s.packing.Change t.packing := by
  obtain hi | hi := Bool.eq_false_or_eq_true (actsOnPacking i)
  · cases i with
    | boardFrame => exact execBoardFrame_packingChange h
    | tallyMove => exact execTallyMove_packingChange h
    | drawEnd => exact execDrawEnd_packingChange h
    | lineSilenceExpiry => exact execLineSilenceExpiry_packingChange h
    | packPlan _ _ ps => exact request_packingChange (packPlanOwner_changesPacking ps) h
    | closePack => exact request_packingChange closePackOwner_changesPacking h
    | nextLabel => exact request_packingChange nextLabelOwner_changesPacking h
    | ackLabel _ _ ps => exact request_packingChange (ackLabelOwner_changesPacking ps) h
    | powerReturn d0 d1 d2 d3 | clearedStart d0 d1 d2 d3 =>
      exact next_keeps (P := fun t => s.packing.Change t.packing)
        (ite_keeps (P := fun t => s.packing.Change t.packing) .kept (mainReturns_packingChange s d0 d1 d2 d3)) h
    | clearReset => exact whilePowered_packingChange (fun h => by cases h; exact .emptied (.inl rfl)) h
    | _ => cases hi
  · rw [exec_packing hi h]
    exact .kept

theorem step_packingChange (h : step s = .next t) : s.packing.Change t.packing := by
  obtain ⟨i, rest, -, hexec⟩ | ⟨-, rfl⟩ := step_next h
  · exact exec_packingChange (s := { s with pending := rest }) hexec
  · rw [idle_packing]
    exact .kept

end

/-- Settles O59: a step makes one of the kinds of change to the packing, and each keeps the ranges and the order of the label
queue; what makes a state sound bears on neither. -/
theorem packsAndLabelsKept : Obligations.PacksAndLabelsKept := by
  intro s t h _
  have hchange := step_packingChange h
  rw [packsInRange_iff, packsInRange_iff, labelsQueued_iff, labelsQueued_iff]
  exact ⟨hchange.inRange, hchange.queued⟩

end Sys2Proof.Machine
end

-- ==== Proofs: draws, tally moves and pack closes ====
section
/-! Chapter 7: DRAW and END-DRAW, the tally moves and the check of R130, the closes of the OPEN pack, and the draw end. -/

namespace Sys2Proof.Machine

section
variable {s t : State}

/-! ### The check of R130 -/

theorem freePack_eq_none : s.freePack = none ↔ ∀ k, s.pack k ≠ none := by
  rw [← Option.not_isSome_iff_eq_none, freePack_isSome_iff, not_exists]

/-- The tally is stuck, in the words of R130. -/
theorem tallyStuck_eq_true :
    s.tallyStuck = true ↔ s.fifo ≠ [] ∧ s.openPack = none ∧ ∀ k, s.pack k ≠ none := by
  simp [State.tallyStuck, freePack_eq_none, and_assoc]

theorem checkBlocked_stuck (h : s.tallyStuck = true) (hb : s.blocked = false) :
    s.checkBlocked = State.raise .block { s with blocked := true } :=
  if_pos (by simp [h, hb])

theorem checkBlocked_blocked (h : s.blocked = true) : s.checkBlocked = s :=
  if_neg (by simp [h])

theorem checkBlocked_unstuck (h : ¬s.tallyStuck = true) : s.checkBlocked = s :=
  if_neg (by simp [h])

/-- With a pack OPEN the tally is not stuck. -/
theorem checkBlocked_opened {k : Fin 16} {p : Pack} (hk : s.pack k = some p) (ho : p.state = .opened) : s.checkBlocked = s :=
  checkBlocked_unstuck fun h => openPack_eq_none (tallyStuck_eq_true.1 h).2.1 hk ho

/-! ### DRAW and END-DRAW -/

section
variable {hi lo auto : Byte} {rest : List Byte}

theorem drawOwner_outOfRange (h : 2 ≤ auto.toNat) : drawOwner (hi :: lo :: auto :: rest) s = refuse .outOfRange s := by
  rw [drawOwner, boolOfCode_eq_none h]

theorem boolOfCode_byte (h : auto.toNat < 2) : boolOfCode auto.toNat = some (decide (auto = 1#8)) := by
  rw [boolOfCode_of_le (Nat.le_of_lt_succ h)]
  simp [BitVec.toNat_eq]

theorem drawOwner_active (h : auto.toNat < 2) (hd : s.draw ≠ none) :
    drawOwner (hi :: lo :: auto :: rest) s = refuse .drawActive s := by
  rw [drawOwner, boolOfCode_byte h]
  exact if_pos (Option.isSome_iff_ne_none.2 hd)

theorem drawOwner_noCharge (h : auto.toNat < 2) (hd : s.draw = none)
    (hc : ∀ k ch, s.chargeById (nat16 hi lo) = some (k, ch) → ch.state ≠ .released) :
    drawOwner (hi :: lo :: auto :: rest) s = refuse .noCharge s := by
  rw [drawOwner, boolOfCode_byte h]
  refine (if_neg (by simp [hd])).trans ?_
  cases hf : s.chargeById (nat16 hi lo) with
  | none => rfl
  | some r => exact if_pos (bne_iff_ne.2 (hc r.1 r.2 hf))

theorem drawOwner_taken {k : Fin 8} {ch : Charge} (h : auto.toNat < 2) (hd : s.draw = none)
    (hf : s.chargeById (nat16 hi lo) = some (k, ch)) (hr : ch.state = .released) :
    drawOwner (hi :: lo :: auto :: rest) s =
      took { s.setCharge k (some { ch with state := .onLine, remaining := some ch.declared }) with
        draw := some ⟨false, k, decide (auto = 1#8)⟩ } (u16 ch.id ++ u8 k.val ++ u16 ch.declared) := by
  rw [drawOwner, boolOfCode_byte h]
  refine (if_neg (by simp [hd])).trans ?_
  simp only [hf]
  refine (if_neg (by simp [hr])).trans ?_
  rw [modCharge_eq_set _ (chargeById_some hf).1]

theorem endDrawOwner_wrongState (h : ∀ d, s.draw = some d → d.ending = true) : endDrawOwner s = refuse .wrongState s := by
  unfold endDrawOwner
  split
  · rename_i d hd
    exact if_pos (h d hd)
  · rfl

theorem endDrawOwner_taken {d : Draw} {ch : Charge} (hd : s.draw = some d) (ha : d.ending = false)
    (hch : s.charge d.slot = some ch) :
    endDrawOwner s = took { s with draw := some { d with ending := true } } (u16 ch.id ++ u8 s.fifo.length) := by
  simp only [endDrawOwner, hd, ha, hch]
  rfl

end

end

/-- Settles O40: each test of R118 and of R119 decides its branch of the owner, and the port answers what the owner does. -/
theorem drawRequests : Obligations.DrawRequests := by
  intro tag rest s ht
  refine ⟨fun hi lo auto => ⟨fun h => ?_, fun h hd => ?_, fun h hd hc => ?_, fun k ch h hd hf hr => ?_⟩, fun h => ?_,
    fun d ch hd ha hch => ?_⟩
  · exact request_refused ht rfl (drawOwner_outOfRange h)
  · exact request_refused ht rfl (drawOwner_active h hd)
  · exact request_refused ht rfl (drawOwner_noCharge h hd hc)
  · exact request_taken ht rfl (drawOwner_taken h hd hf hr)
  · exact request_refused ht rfl (endDrawOwner_wrongState h)
  · exact request_taken ht rfl (endDrawOwner_taken hd ha hch)

section
variable {s t : State}

/-! ### Closes of the OPEN pack -/

/-- What a close reads, when the links and the fields R139 names are there. -/
theorem closeView_eq_some {p : Pack} {v : CloseView} (hslot : p.chargeSlot = some v.slot)
    (hch : s.charge v.slot = some v.charge) (hfinal : v.charge.finalStats = some v.final)
    (hstart : v.charge.startTime = some v.start) (hfinish : v.charge.endTime = some v.finish)
    (hrem : v.charge.remaining = some v.remaining) : s.closeView p = some v := by
  simp only [State.closeView, hslot, hch, hfinal, hstart, hfinish, hrem]

theorem closePack_eq {cause : CloseCause} {k : Fin 16} {p : Pack} {v : CloseView} (hv : s.closeView p = some v) :
    s.closePack cause k p = some (State.raise .label { s with
      packs := s.packs.set k (some (p.closed (labelOf cause s.clock p v)))
      charges := s.charges.set v.slot (some (v.charge.packClosed p.number))
      labelQueue := s.labelQueue ++ [k] }) := by
  obtain ⟨-, hch, -⟩ := closeView_some hv
  have hmod := modCharge_eq_set (s := s.setPack k (some (p.closed (labelOf cause s.clock p v)))) (Charge.packClosed p.number) hch
  simp only [State.closePack, hv, Option.map_some, hmod]
  rfl

theorem closePackOwner_noPack (h : s.openPack = none) : closePackOwner s = refuse .noPack s := by
  rw [closePackOwner, h]

theorem closePackOwner_taken {k : Fin 16} {p : Pack} (h : s.openPack = some (k, p))
    (ht : s.closePack .closePack k p = some t) :
    closePackOwner s = some (t.checkBlocked, ⟨.ok, u16 p.number ++ u16 p.boards⟩) := by
  simp only [closePackOwner, h, ht, Option.map_some]

theorem expireSilence_noPack (x : Silence) (h : s.openPack = none) : s.expireSilence x = some { s with silence := none } := by
  have ht : ({ s with silence := none } : State).openPack = none := h
  simp only [State.expireSilence, ht]

theorem expireSilence_opened {x : Silence} {k : Fin 16} {p : Pack} (h : s.openPack = some (k, p)) :
    s.expireSilence x = if x.closeOnIdle then
        (State.closePack .idle k p (State.raise .idle { s with silence := none })).map State.checkBlocked
      else some (State.raise .idle { s with silence := none }) := by
  have ht : ({ s with silence := none } : State).openPack = some (k, p) := h
  simp only [State.expireSilence, ht]

/-- What is only taken while main power is on is taken while it is on. -/
theorem whilePowered_on (hm : s.power.main = true) (o : Host.Outcome State Fault Refusal) : whilePowered s o = o :=
  if_pos hm

theorem exec_lineSilenceExpiry_early (hm : s.power.main = true)
    (h : s.silence = none ∨ ∃ x, s.silence = some x ∧ x.seconds ≠ 0) : exec .lineSilenceExpiry s = .next s := by
  refine (whilePowered_on hm _).trans ?_
  obtain h | ⟨x, h, hx⟩ := h
  · simp only [h]
  · simp only [h, if_neg hx]

theorem exec_lineSilenceExpiry_due {x : Silence} (hm : s.power.main = true) (h : s.silence = some x) (hx : x.seconds = 0)
    (ht : s.expireSilence x = some t) : exec .lineSilenceExpiry s = .next t := by
  refine (whilePowered_on hm _).trans ?_
  simp only [h, if_pos hx, ht, orBroken]

end

/-- Settles O42: the close reads a whole view, CLOSE-PACK and line-silence expiry make it on the OPEN pack. -/
theorem packCloses : Obligations.PackCloses := by
  intro s
  refine ⟨fun cause k p v hslot hch hfinal hstart hfinish hrem => ?_, fun port tag rest hport ht => ?_,
    fun hm => ⟨exec_lineSilenceExpiry_early hm, fun x hsil hx => ⟨fun ho => ?_, fun k p ho => ⟨fun hc => ?_,
      fun t hc htc => ?_⟩⟩⟩⟩
  · exact closePack_eq (closeView_eq_some hslot hch hfinal hstart hfinish hrem)
  · have hp : Request.closePack.permitted port = true := by obtain rfl | rfl := hport <;> rfl
    exact ⟨fun ho => request_refused ht hp (closePackOwner_noPack ho),
      fun k p t ho htc => request_taken ht hp (closePackOwner_taken ho htc)⟩
  · exact exec_lineSilenceExpiry_due hm hsil hx (expireSilence_noPack x ho)
  · exact exec_lineSilenceExpiry_due hm hsil hx ((expireSilence_opened ho).trans (if_neg (by simp [hc])))
  · refine exec_lineSilenceExpiry_due hm hsil hx ((expireSilence_opened ho).trans ?_)
    rw [if_pos hc, htc, Option.map_some]

section
variable {s t : State}

/-! ### The draw end -/

theorem exec_drawEnd_early (hm : s.power.main = true) (h : ¬s.drawEndDue = true) : exec .drawEnd s = .next s := by
  refine (whilePowered_on hm _).trans ?_
  split
  · exact if_neg h
  · rfl

theorem exec_drawEnd_due {d : Draw} (hm : s.power.main = true) (hd : s.draw = some d) (h : s.drawEndDue = true)
    (ht : s.endDraw d = some t) : exec .drawEnd s = .next t := by
  refine (whilePowered_on hm _).trans ?_
  simp only [hd, if_pos h, ht, orBroken]

/-- The close of the OPEN pack, when there is one (R121 step 1). -/
theorem closeOpen_eq {cause : CloseCause} (h : (s.openPack = none ∧ t = s) ∨
    ∃ k p, s.openPack = some (k, p) ∧ s.closePack cause k p = some t) : s.closeOpen cause = some t := by
  obtain ⟨ho, rfl⟩ | ⟨k, p, ho, ht⟩ := h
  · simp only [State.closeOpen, ho]
  · simp only [State.closeOpen, ho, ht]

/-- R16, R121: a charge that leaves the line short of its declared boards is marked. -/
theorem planed_of_remaining {ch : Charge} {rem : Nat} (h : ch.remaining = some rem) : ch.planed =
    { ch with state := .planed, marks := if 0 < rem then ch.marks ||| 0b10000000#8 else ch.marks } := by
  simp only [Charge.planed, h]
  split <;> rfl

theorem endDraw_eq {d : Draw} {ch : Charge} {rem : Nat} (ht : s.closeOpen .drawEnd = some t)
    (hch : t.charge d.slot = some ch) (hrem : ch.remaining = some rem) :
    s.endDraw d = some (State.checkBlocked (State.raise .draw { t with
      charges := t.charges.set d.slot (some { ch with
        state := .planed, marks := if 0 < rem then ch.marks ||| 0b10000000#8 else ch.marks })
      draw := none })) := by
  rw [State.endDraw, ht, Option.map_some, modCharge_eq_set _ hch, planed_of_remaining hrem]
  rfl

end

/-- Settles O43: the draw end is due or not by R121's own condition, and the charge it leaves PLANED is the one the close left. -/
theorem drawEnds : Obligations.DrawEnds := by
  intro s hm
  refine ⟨fun h => exec_drawEnd_early hm fun hdue => ?_, fun d ch rem t hd he hf hclose hch hrem => ?_⟩
  · obtain ⟨e, he, hending, hnone⟩ := drawEndDue_iff.1 hdue
    obtain h | ⟨d, hd, h⟩ := h
    · cases h.symm.trans he
    · obtain rfl := Option.some.inj (hd.symm.trans he)
      obtain h | ⟨b, hb, hslot⟩ := h
      · cases h.symm.trans hending
      · exact hnone b hb hslot
  · exact exec_drawEnd_due hm hd (drawEndDue_iff.2 ⟨d, hd, he, hf⟩) (endDraw_eq (closeOpen_eq hclose) hch hrem)

section
variable {s t : State} {b : BoardRecord} {rest : List BoardRecord} {k : Fin 16} {p : Pack}

/-! ### Tally moves -/

/-- A search of a rising list that passes every number before `k` and stops there. -/
theorem find?_of_sorted {n : Nat} {l : List (Fin n)} (hl : l.Pairwise (· < ·)) {test : Fin n → Bool} {k : Fin n} (hk : k ∈ l)
    (ht : test k = true) (hlt : ∀ j, j < k → test j = false) : l.find? test = some k := by
  obtain ⟨before, after, rfl⟩ := List.append_of_mem hk
  have hb : ∀ j ∈ before, j < k := fun j hj => (List.pairwise_append.1 hl).2.2 j hj k List.mem_cons_self
  exact List.find?_eq_some_iff_append.2 ⟨ht, before, after, rfl, fun j hj => by simp [hlt j (hb j hj)]⟩

/-- The lowest-numbered FREE pack record (R128). -/
theorem freePack_eq_some (hk : s.pack k = none) (hlt : ∀ j, j < k → s.pack j ≠ none) : s.freePack = some k :=
  find?_of_sorted (by decide) (mem_allPackSlots k) (by simp [hk]) fun j hj =>
    by simpa [Option.isSome_iff_ne_none] using hlt j hj

/-- A board added to a pack, field by field (R129). -/
theorem add_eq (b : BoardRecord) (p : Pack) : p.add b = { p with
    boards := p.boards + 1
    totalLength := p.totalLength + b.length
    unmeasured := if b.mc = none then p.unmeasured + 1 else p.unmeasured
    measured := if b.mc = none then p.measured else p.measured + 1
    mcSum := p.mcSum + b.mc.getD 0
    maxMc := match b.mc, p.maxMc with
      | none, top => top
      | some m, none => some m
      | some m, some top => some (max top m) } := by
  unfold Pack.add
  cases b.mc with
  | none => rfl
  | some m => cases p.maxMc <;> rfl

theorem addPacked_eq (b : BoardRecord) (ch : Charge) : ch.addPacked b = { ch with
    packed := addCount ch.packed 1
    unmeasured := if b.mc = none then addCount ch.unmeasured 1 else ch.unmeasured } := by
  unfold Charge.addPacked
  cases b.mc <;> rfl

/-- The state of a tally move before any close: the FIFO record gone, its board counted in the pack and in the charge (R127, R129,
R130). -/
def State.boardMoved (b : BoardRecord) (rest : List BoardRecord) (k : Fin 16) (p : Pack) (x : Charge) (s : State) : State :=
  { s with
    fifo := rest
    lineReady := if rest.length = 24 then true else s.lineReady
    blocked := false
    packs := s.packs.set k (some (p.add b))
    charges := s.charges.set b.slot (some (x.addPacked b)) }

theorem addBoard_eq {ch : Charge} (hch : s.charge b.slot = some ch) :
    { s.addBoard b rest k p with blocked := false } = s.boardMoved b rest k p ch := by
  have hmod := modCharge_eq_set (s := s.setPack k (some (p.add b))) (Charge.addPacked b) hch
  rw [State.addBoard, hmod]
  rfl

theorem exec_tallyMove_idle (h : ¬s.moveDue = true) : exec .tallyMove s = .next s := by
  refine whilePowered_eq.trans ?_
  rw [if_neg h, ite_self]

theorem exec_tallyMove_due (hm : s.power.main = true) (hf : s.fifo = b :: rest)
    (h : s.openPack.isSome = true ∨ s.freePack.isSome = true) (ht : s.moveBoard b rest = some t) :
    exec .tallyMove s = .next t := by
  have hdue : s.moveDue = true := by simp [State.moveDue, hf, h]
  refine (whilePowered_on hm _).trans ((if_pos hdue).trans ?_)
  simp only [hf, ht, orBroken]

theorem moveBoard_open (hu : s.packForMove b = some (t, k, p)) (ho : p.state = .opened) {u : State}
    (hadd : { t.addBoard b rest k p with blocked := false } = u) (hk : u.pack k = some (p.add b))
    (hne : p.boards + 1 ≠ p.target) : s.moveBoard b rest = some u := by
  have hq : ¬(p.add b).boards = (p.add b).target := by rwa [add_boards, add_target]
  simp only [State.moveBoard, hu, hadd, if_neg hq, Option.map_some]
  rw [checkBlocked_opened hk ((add_state b p).trans ho)]

theorem moveBoard_full (hu : s.packForMove b = some (t, k, p)) {u v : State}
    (hadd : { t.addBoard b rest k p with blocked := false } = u) (he : p.boards + 1 = p.target)
    (hv : u.closePack .target k (p.add b) = some v) : s.moveBoard b rest = some v.checkBlocked := by
  have hq : (p.add b).boards = (p.add b).target := by rwa [add_boards, add_target]
  simp only [State.moveBoard, hu, hadd, if_pos hq, hv, Option.map_some]

theorem packForMove_open (h : s.openPack = some (k, p)) : s.packForMove b = some (s, k, p) := by
  simp only [State.packForMove, h]

/-- The opening of a pack in record `k` for the charge of a FIFO record (R128). -/
def State.packBegun (b : BoardRecord) (k : Fin 16) (ch : Charge) (s : State) : State :=
  { s with
    packs := s.packs.set k (some (Pack.begun s.assignedPack b.slot ch s.plan s.stamp))
    charges := s.charges.set b.slot (some { ch with firstPack := some (ch.firstPack.getD s.assignedPack) })
    packCounter := nextNumber s.assignedPack }

theorem packForMove_free {ch : Charge} (ho : s.openPack = none) (hk : s.freePack = some k) (hch : s.charge b.slot = some ch) :
    s.packForMove b = some (s.packBegun b k ch, k, Pack.begun s.assignedPack b.slot ch s.plan s.stamp) := by
  have hmod := modCharge_eq_set (fun ch : Charge => { ch with firstPack := some (ch.firstPack.getD s.assignedPack) })
    (s := { s.setPack k (some (Pack.begun s.assignedPack b.slot ch s.plan s.stamp)) with
      packCounter := nextNumber s.assignedPack }) hch
  simp only [State.packForMove, ho, hk, hch, hmod]
  rfl

theorem packBegun_charge (s : State) (b : BoardRecord) (k : Fin 16) (ch : Charge) : (s.packBegun b k ch).charge b.slot =
    some { ch with firstPack := some (ch.firstPack.getD s.assignedPack) } :=
  State.charge_setCharge_same s b.slot _

/-- Of the opening, what the board's own changes do not replace is the counter. -/
theorem packBegun_boardMoved (s : State) (b : BoardRecord) (rest : List BoardRecord) (k : Fin 16) (ch x : Charge) (p : Pack) :
    (s.packBegun b k ch).boardMoved b rest k p x =
      { s.boardMoved b rest k p x with packCounter := nextNumber s.assignedPack } := by
  simp [State.packBegun, State.boardMoved]

theorem boardMoved_pack (s : State) (b : BoardRecord) (rest : List BoardRecord) (k : Fin 16) (p : Pack) (x : Charge) :
    (s.boardMoved b rest k p x).pack k = some (p.add b) :=
  State.pack_setPack_same s k _

end

/-- Settles O41: a move that is due adds its board to the OPEN pack or to one it opens; while that pack stays OPEN the tally is
not stuck, so the check of R130 can act only after a close. -/
theorem tallyMoves : Obligations.TallyMoves := by
  intro s
  refine ⟨⟨fun ⟨hf, ho, hk, hb⟩ => checkBlocked_stuck (tallyStuck_eq_true.2 ⟨hf, ho, hk⟩) hb, fun h => ?_⟩, fun h => ?_, ?_⟩
  · by_cases hb : s.blocked = true
    · exact checkBlocked_blocked hb
    · refine checkBlocked_unstuck fun hstuck => ?_
      obtain ⟨hf, ho, hk⟩ := tallyStuck_eq_true.1 hstuck
      obtain h | h | ⟨k, h⟩ | h := h
      · exact hf h
      · exact h ho
      · exact hk k h
      · exact hb h
  · refine exec_tallyMove_idle fun hdue => ?_
    obtain ⟨hf, hroom⟩ := moveDue_iff.1 hdue
    obtain h | ⟨ho, hk⟩ := h
    · exact hf h
    · obtain ⟨k, p, hp, hst⟩ | ⟨k, hfree⟩ := hroom
      · exact openPack_eq_none ho hp hst
      · exact hk k hfree
  · intro b rest ch add hm hf hch hadd counted moved
    have hadded : ∀ p, add p = p.add b := fun p => (congrFun hadd p).trans (add_eq b p).symm
    have hcounted : ∀ x, counted x = x.addPacked b := fun x => (addPacked_eq b x).symm
    have hmoved : ∀ k p x, moved k (add p) (counted x) = s.boardMoved b rest k p x := by
      intro k p x
      rw [hadded, hcounted]
      rfl
    refine ⟨fun k p ho hne => ?_, fun k p t ho he ht => ?_, fun k ho hk hlt hone => ?_⟩
    · rw [hmoved]
      exact exec_tallyMove_due hm hf (.inl (by simp [ho]))
        (moveBoard_open (packForMove_open ho) (openPack_some ho).2 (addBoard_eq hch) (boardMoved_pack s b rest k p ch) hne)
    · rw [hmoved, hadded] at ht
      exact exec_tallyMove_due hm hf (.inl (by simp [ho])) (moveBoard_full (packForMove_open ho) (addBoard_eq hch) he ht)
    · have hfree := freePack_eq_some hk hlt
      refine (exec_tallyMove_due hm hf (.inr (by simp [hfree])) (moveBoard_open (packForMove_free ho hfree hch) rfl
        (addBoard_eq (packBegun_charge s b k ch)) (boardMoved_pack _ b rest k _ _) hone.symm)).trans ?_
      rw [packBegun_boardMoved, ← hmoved]
      rfl

end Sys2Proof.Machine
end

-- ==== Proofs: the label of a pack close ====
section
/-! Chapter 8, R137 to R141: the figures of the label a close computes, its marks and draw outcome, and its grade class. -/

namespace Sys2Proof.Machine

/-! ### Volume and mean MC -/

/-- R138: the largest pack of the plan gives 135,000 cubic decimetres. -/
theorem packVolume_le {length thickness width : Nat} (hl : length ≤ 450000) (ht : thickness ≤ 100) (hw : width ≤ 300) :
    packVolume length thickness width ≤ 135000 := by
  have := Nat.mul_le_mul (Nat.mul_le_mul hl ht) hw
  unfold packVolume
  omega

theorem packMean_zero {mcSum measured : Nat} (h : measured = 0) : packMean mcSum measured = none :=
  if_pos h

theorem packMean_pos {mcSum measured : Nat} (h : measured ≠ 0) :
    packMean mcSum measured = some ((mcSum + measured / 2) / measured) :=
  if_neg h

/-- The rounded mean of values is no less than the least of them. -/
theorem min_le_rounded {values : List Nat} (h : values ≠ []) :
    values.min h ≤ (values.sum + values.length / 2) / values.length := by
  have hsum := List.card_nsmul_le_sum values (values.min h) fun v hv => List.min_le_of_mem hv
  simpa using rounded_le_rounded (a := values.min h) Nat.one_pos (List.length_pos_iff.2 h) (by simpa using hsum)

/-- The rounded mean of values is no greater than the greatest of them. -/
theorem rounded_le_max {values : List Nat} (h : values ≠ []) :
    (values.sum + values.length / 2) / values.length ≤ values.max h := by
  have hsum := List.sum_le_card_nsmul values (values.max h) fun v hv => List.le_max_of_mem hv
  simpa using rounded_le_rounded (b := values.max h) (List.length_pos_iff.2 h) Nat.one_pos (by simpa using hsum)

/-- R138: the mean MC lies between the least and the greatest measured. -/
theorem packMean_between {values : List Nat} {mean : Nat} (hne : values ≠ [])
    (h : packMean values.sum values.length = some mean) : (∃ m ∈ values, m ≤ mean) ∧ ∃ m ∈ values, mean ≤ m := by
  rw [packMean_pos (mt List.length_eq_zero_iff.1 hne)] at h
  cases h
  exact ⟨⟨_, List.min_mem hne, min_le_rounded hne⟩, ⟨_, List.max_mem hne, rounded_le_max hne⟩⟩

/-! ### Marks and draw outcome -/

section
variable {v : CloseView} {cause : CloseCause}

theorem CloseView.outcome_drawEnd (h : cause = .drawEnd) :
    v.outcome cause = some ⟨v.charge.unseen, v.remaining, v.charge.overrun⟩ :=
  if_pos h

theorem CloseView.outcome_none (h : cause ≠ .drawEnd) : v.outcome cause = none :=
  if_neg h

theorem CloseView.marks_short (hc : cause = .drawEnd) (hr : 0 < v.remaining) :
    v.marks cause = v.charge.marks ||| 0b10000000#8 :=
  if_pos ⟨hc, hr⟩

theorem CloseView.marks_charge (h : cause ≠ .drawEnd ∨ v.remaining = 0) : v.marks cause = v.charge.marks :=
  if_neg fun ⟨hc, hr⟩ => h.elim (· hc) hr.ne'

end

/-! ### The grade class -/

/-- The four marks that bar class A are the bits of one mask. -/
theorem barring_mask_eq_zero {marks : MarkSet} : marks &&& 0b00111100#8 = 0#8 ↔
    Mark.doorLong.among marks = false ∧ Mark.manualStep.among marks = false ∧ Mark.powerHold.among marks = false ∧
      Mark.lowProbes.among marks = false := by
  have hmask : (0b00111100#8 : MarkSet) =
      Mark.doorLong.bit ||| (Mark.manualStep.bit ||| (Mark.powerHold.bit ||| Mark.lowProbes.bit)) := by decide
  simp only [hmask, BitVec.and_or_distrib_left, BitVec.or_eq_zero_iff, Mark.among, bne_eq_false_iff_eq]

section
variable {marks : MarkSet} {mean : Option Nat} {m targetMc unmeasured boards : Nat}

/-- The tests of R141 on a pack with a mean MC, in their order, with each set of marks as one mask. -/
theorem gradeOf_some : gradeOf marks (some m) targetMc unmeasured boards =
    if marks &&& 0b00000001#8 ≠ 0#8 ∨ targetMc + 10 < m ∨ boards < unmeasured * 5 then .c
    else if m ≤ targetMc ∧ unmeasured * 20 ≤ boards ∧ marks &&& 0b00111100#8 = 0#8 then .a
    else .b := by
  have haborted : Mark.aborted.among marks = true ↔ marks &&& 0b00000001#8 ≠ 0#8 := bne_iff_ne
  simp only [gradeOf, barring_mask_eq_zero, ← haborted, Bool.or_eq_true, Bool.and_eq_true, Bool.not_eq_true',
    decide_eq_true_eq, and_assoc, or_assoc]

/-- Class C in the words of R141. -/
theorem gradeOf_eq_c : gradeOf marks mean targetMc unmeasured boards = .c ↔
    marks &&& 0b00000001#8 ≠ 0#8 ∨ mean = none ∨ (∃ m, mean = some m ∧ targetMc + 10 < m) ∨ boards < unmeasured * 5 := by
  cases mean with
  | none => simp [gradeOf]
  | some m =>
    rw [gradeOf_some]
    split_ifs with hc
    · simpa using hc
    · exact iff_of_false (by decide) (by simpa using hc)
    · exact iff_of_false (by decide) (by simpa using hc)

/-- Class A in the words of R141: not class C, and no test of class A fails. -/
theorem gradeOf_eq_a : gradeOf marks mean targetMc unmeasured boards = .a ↔
    gradeOf marks mean targetMc unmeasured boards ≠ .c ∧ (∃ m, mean = some m ∧ m ≤ targetMc) ∧ unmeasured * 20 ≤ boards ∧
      marks &&& 0b00111100#8 = 0#8 := by
  cases mean with
  | none => simp [gradeOf]
  | some m =>
    rw [gradeOf_some]
    split_ifs with _ ha
    · simp
    · simpa using ha
    · simpa using ha

end

/-- Settles O44: the figures and copies are the label's fields as computed, and the grade is read from the label's own marks and
mean. -/
theorem labelComputed : Obligations.LabelComputed := by
  rintro cause clock p v _ rfl
  refine ⟨rfl, rfl, rfl, rfl, packVolume_le, packMean_zero, packMean_pos, fun mcs mean hne hsum hlen hmean => ?_,
    rfl, rfl, rfl, rfl, rfl, rfl, rfl, CloseView.outcome_drawEnd, CloseView.outcome_none,
    CloseView.marks_short, CloseView.marks_charge, gradeOf_eq_c, gradeOf_eq_a⟩
  refine packMean_between hne ?_
  rw [← hsum, ← hlen]
  exact hmean

end Sys2Proof.Machine
end

-- ==== Proofs: request frames ====
section
/-! Which request a frame names and which block owns it, said once; from it the round trip of a frame and what a port controller
answers before the owner sees the request (R149 to R153, R174). -/

namespace Sys2Proof.Machine

/-! ### The frame of a request and its owner -/

/-- The owner of a request at port `p` with these parameters (R151): the block that takes it or refuses it. -/
def ownerOf (p : Port) (ps : List Byte) : Request → State → Owned
  | .load => loadOwner ps
  | .start => startOwner p ps
  | .hold => queueOwner .hold ps
  | .resume => queueOwner .resume ps
  | .step => queueOwner .step ps
  | .skipPhase => queueOwner .skipPhase ps
  | .abort => abortOwner ps
  | .release => releaseOwner ps
  | .check => checkOwner ps
  | .probeEnable => probeEnableOwner ps
  | .chamberSet => chamberSetOwner ps
  | .draw => drawOwner ps
  | .endDraw => endDrawOwner
  | .closePack => closePackOwner
  | .newCharge => newChargeOwner ps
  | .deleteCharge => deleteChargeOwner ps
  | .write => writeOwner p ps
  | .commitSchedule => commitScheduleOwner ps
  | .clearSchedule => clearScheduleOwner ps
  | .packPlan => packPlanOwner ps
  | .nextLabel => nextLabelOwner
  | .ackLabel => ackLabelOwner ps
  | .reprint => reprintOwner ps
  | .setTime => setTimeOwner ps
  | .setCursor => setCursorOwner p ps
  | .read => readOwner p
  | .readNotices => readNoticesOwner p
  | .setNoticeMask => setNoticeMaskOwner p ps
  | .status => fun s => took s (s.statusResults p)
  | .mark => markOwner p ps

/-- The command of a request frame passes the request to its owner. -/
theorem exec_requestCommand (p : Port) (tag : Byte) (ps : List Byte) (r : Request) (s : State) :
    exec (requestCommand p tag ps r) s = request r p tag (ownerOf p ps r) s := by
  cases r <;> rfl

/-- A framed command is an unknown request, the second row of WRITE, or the command of the request its code names. -/
theorem framed_cases {i : Instr} {p : Port} {code tag : Byte} {ps : List Byte} (h : i.framed = some (p, code, tag, ps)) :
    (i = .unknownRequest p code tag ∧ ps = []) ∨ (i = .writeSpecies p tag ps ∧ code = Request.write.code) ∨
      ∃ r, code = Request.code r ∧ i = requestCommand p tag ps r := by
  cases i
  all_goals cases h
  case unknownRequest => exact .inl ⟨rfl, rfl⟩
  case writeSpecies => exact .inr (.inl ⟨rfl, rfl⟩)
  all_goals exact .inr (.inr ⟨_, rfl, rfl⟩)

/-- Every request is the one its code names (R174). -/
theorem requestOfCode_code (r : Request) : requestOfCode r.code = some r := by
  cases r <;> rfl

/-- A framed command whose code names a request passes it to that request's owner. -/
theorem exec_framed {i : Instr} {p : Port} {code tag : Byte} {ps : List Byte} {r : Request} (hw : i.wf = true)
    (h : i.framed = some (p, code, tag, ps)) (hr : requestOfCode code = some r) (s : State) :
    code = r.code ∧ exec i s = request r p tag (ownerOf p ps r) s := by
  obtain ⟨rfl, -⟩ | ⟨rfl, rfl⟩ | ⟨r', rfl, rfl⟩ := framed_cases h
  · rw [requestOfCode_unused (by simpa [Instr.wf] using hw)] at hr
    cases hr
  · obtain rfl := Option.some.inj ((requestOfCode_code .write).symm.trans hr)
    exact ⟨rfl, rfl⟩
  · obtain rfl := Option.some.inj ((requestOfCode_code r').symm.trans hr)
    exact ⟨rfl, exec_requestCommand p tag ps r' s⟩

/-! ### The round trip of a frame -/

/-- The two bytes of a CRC, put together, are the CRC (R174). -/
theorem crcField_append (c : BitVec 16) : c.extractLsb' 8 8 ++ c.extractLsb' 0 8 = c :=
  BitVec.extractLsb'_append_extractLsb'

/-- The command of a valid frame with this code (R151). -/
def commandOfCode (p : Port) (code tag : Byte) (ps : List Byte) : Instr :=
  match requestOfCode code with
  | none => .unknownRequest p code tag
  | some r => requestCommand p tag ps r

theorem commandOfCode_code (p : Port) (tag : Byte) (ps : List Byte) (r : Request) :
    commandOfCode p r.code tag ps = requestCommand p tag ps r := by
  rw [commandOfCode, requestOfCode_code]

theorem commandOfCode_unused {p : Port} {code tag : Byte} {ps : List Byte} (h : codeInUse code = false) :
    commandOfCode p code tag ps = .unknownRequest p code tag := by
  rw [commandOfCode, requestOfCode_unused h]

/-- What a port reads from a whole frame: a length byte in range, a body of that length, and two bytes of CRC. -/
theorem decodePortFrame_whole {p : Port} {len hi lo code tag : Byte} {ps : List Byte} (hl : lengthByteGood len = true)
    (hn : ps.length + 2 = len.toNat) :
    decodePortFrame p (len :: (code :: tag :: ps ++ [hi, lo])) =
      if crc16 (len :: code :: tag :: ps) = hi ++ lo then some (commandOfCode p code tag ps)
      else some (.requestFrameCrcFail p) := by
  have htake : (code :: tag :: ps ++ [hi, lo]).take len.toNat = code :: tag :: ps := List.take_left' hn
  have hdrop : (code :: tag :: ps ++ [hi, lo]).drop len.toNat = [hi, lo] := List.drop_left' hn
  simp only [decodePortFrame, hl, htake, hdrop, Bool.not_true, Bool.false_eq_true, if_false, beq_iff_eq]
  rw [commandOfCode]
  cases requestOfCode code <;> rfl

/-- A body of at most 62 parameters has a length byte in range, which carries its length (R149, R174). -/
theorem lengthByte_fits {ps : List Byte} (h : paramsFit ps = true) :
    ps.length + 2 = (BitVec.ofNat 8 (ps.length + 2)).toNat ∧ lengthByteGood (BitVec.ofNat 8 (ps.length + 2)) = true := by
  have hle : ps.length ≤ 62 := of_decide_eq_true h
  have hcarried : (BitVec.ofNat 8 (ps.length + 2)).toNat = ps.length + 2 := by rw [BitVec.toNat_ofNat]; omega
  simp only [lengthByteGood, hcarried, Bool.and_eq_true, decide_eq_true_eq, true_and]
  omega

/-- A well-formed framed command has a body that fits a frame. -/
theorem paramsFit_of_framed {i : Instr} {p : Port} {code tag : Byte} {ps : List Byte} (hw : i.wf = true)
    (h : i.framed = some (p, code, tag, ps)) : paramsFit ps = true := by
  obtain ⟨-, rfl⟩ | ⟨rfl, -⟩ | ⟨r, -, rfl⟩ := framed_cases h
  · rfl
  · exact hw
  · cases r <;> exact hw

/-- The frame of a request decodes to what its code names. -/
theorem decode_requestFrame {p : Port} {code tag : Byte} {ps : List Byte} (h : paramsFit ps = true) :
    decodePortFrame p (requestFrame code tag ps) = some (commandOfCode p code tag ps) := by
  obtain ⟨hn, hl⟩ := lengthByte_fits h
  exact (decodePortFrame_whole hl hn).trans (if_pos (crcField_append _).symm)

/-- Settles O3: the frame decodes to what its code names, which `framed_cases` reads back; a body of the length that the length byte
carries has a code and a tag, and its CRC is compared as it stands. -/
theorem frameRoundTrip : Obligations.FrameRoundTrip := by
  refine ⟨fun i p bytes hw h => ?_, fun p len hi lo body hl hn hcrc => ?_⟩
  · obtain ⟨⟨q, code, tag, ps⟩, hf, he⟩ := Option.map_eq_some_iff.1 h
    obtain ⟨rfl, rfl⟩ := Prod.mk.inj he
    rw [decode_requestFrame (paramsFit_of_framed hw hf)]
    obtain ⟨rfl, rfl⟩ | ⟨rfl, rfl⟩ | ⟨r, rfl, rfl⟩ := framed_cases hf
    · rw [commandOfCode_unused (by simpa [Instr.wf] using hw)]
    · rw [commandOfCode_code]; rfl
    · rw [commandOfCode_code]
      cases r <;> rfl
  · have htwo : 2 ≤ body.length := by
      simp only [lengthByteGood, Bool.and_eq_true, decide_eq_true_eq] at hl
      omega
    match body, htwo with
    | code :: tag :: ps, _ => exact (decodePortFrame_whole hl hn).trans (if_neg hcrc)

/-! ### What a port controller does before the owner sees a request -/

section
variable {r : Request} {p : Port} {tag : Byte} {owner : State → Owned} {s : State}

theorem request_discarded (h : s.takesFrame p = false) : request r p tag owner s = .next s := by
  simp [request, h]

theorem request_notPermitted (ht : s.takesFrame p = true) (hp : r.permitted p = false) :
    request r p tag owner s = .next (s.respond p r.code tag ⟨.notPermitted, []⟩) := by
  simp [request, ht, hp]

end

section
variable {p : Port} {ps : List Byte} {s : State}

/-- R153, R156: a WRITE with the cursor on a table that is not writable. -/
theorem writeOwner_notPermitted (hst : (s.port p).cursor.table ≠ .staging) (hsp : (s.port p).cursor.table ≠ .species) :
    writeOwner p ps s = refuse .notPermitted s := by
  unfold writeOwner
  split
  · exact absurd ‹_› hst
  · exact absurd ‹_› hsp
  all_goals rfl

theorem parseHeader_short (h : ps.length < 9) : parseHeader ps = none := by
  unfold parseHeader
  split
  · simp only [List.length_cons] at h; omega
  · rfl

theorem parseStep_short (h : ps.length < 12) : parseStep ps = none := by
  unfold parseStep
  split
  · simp only [List.length_cons] at h; omega
  · rfl

theorem parseSpecies_short (h : ps.length < 25) : parseSpecies ps = none := by
  unfold parseSpecies
  split
  · simp only [List.length_cons] at h; omega
  · rfl

/-- R151, R156: a WRITE with fewer bytes than the record at the cursor. -/
theorem writeOwner_short (ht : (s.port p).cursor.table = .staging ∨ (s.port p).cursor.table = .species)
    (h : ps.length < bytesNeeded (s.port p).cursor .write) : writeOwner p ps s = refuse .outOfRange s := by
  obtain ht | ht := ht
  · simp only [bytesNeeded, ht, reduceCtorEq, if_false] at h
    simp only [writeOwner, ht, writeStagingOwner]
    split <;> rename_i hi
    · rw [parseHeader_short (by simpa [hi] using h)]
    · rw [parseStep_short (by simpa [hi] using h)]
  · simp only [bytesNeeded, ht, if_true] at h
    simp only [writeOwner, ht, writeSpeciesOwner, parseSpecies_short h]

/-- R151: every owner refuses a body with fewer bytes than the request calls for, before any other test. -/
theorem ownerOf_short {r : Request}
    (hw : r = .write → (s.port p).cursor.table = .staging ∨ (s.port p).cursor.table = .species)
    (h : ps.length < bytesNeeded (s.port p).cursor r) : ownerOf p ps r s = refuse .outOfRange s := by
  cases r
  case write => exact writeOwner_short (hw rfl) h
  case endDraw | closePack | nextLabel | read | readNotices | status => exact absurd h (Nat.not_lt_zero _)
  all_goals
    simp only [ownerOf, loadOwner, startOwner, queueOwner, abortOwner, releaseOwner, checkOwner, probeEnableOwner,
      chamberSetOwner, drawOwner, newChargeOwner, deleteChargeOwner, commitScheduleOwner, clearScheduleOwner, packPlanOwner,
      ackLabelOwner, reprintOwner, setTimeOwner, setCursorOwner, setNoticeMaskOwner, markOwner]
    split
    · simp only [bytesNeeded, List.length_cons] at h; omega
    · rfl

end

/-- Settles O4: the command passes the request to its owner, so the port's tests and each owner's length test come first. -/
theorem requestDecoded : Obligations.RequestDecoded := by
  intro i p code tag ps r s hw hf hr
  obtain ⟨rfl, he⟩ := exec_framed hw hf hr s
  rw [he]
  refine ⟨request_discarded, request_notPermitted, ?_, fun ht hp hwrite hlen => ?_⟩
  · rintro ht rfl rfl hst hsp
    exact request_refused ht rfl (writeOwner_notPermitted hst hsp)
  · exact request_refused ht hp (ownerOf_short hwrite hlen)

end Sys2Proof.Machine
end

-- ==== Proofs: what a port is told ====
section
/-! R159: what a raised notice does at one port, and the operations of chapters 3 to 7 and 10, which reach the ports and the links
by raised notices alone. -/

namespace Sys2Proof.Machine

/-! ### One port -/

/-- R159: the pending set of port `q` holds only names raised to it. -/
def PortState.Owns (q : Port) (x : PortState) : Prop := x.pending &&& noticesOf q = x.pending

/-- Names raised to port `q` have joined its pending set, and nothing else about it has changed. -/
def PortState.Told (q : Port) (x y : PortState) : Prop :=
  ∃ told : NoticeSet, told &&& noticesOf q = told ∧ y = { x with pending := x.pending ||| told }

theorem noticesOwn_iff {s : State} : s.NoticesOwn ↔ ∀ q, (s.port q).Owns q := by
  refine ⟨fun h q => h q ?_, fun h q _ => h q⟩
  cases q <;> decide

/-- A notice raised to a port is among the names the port can hold (R159). -/
theorem bit_mem_noticesOf {n : Notice} {q : Port} (h : n.raisedTo q = true) : n.bit &&& noticesOf q = n.bit := by
  revert h
  cases n <;> cases q <;> decide

theorem PortState.Owns.pending_zero {q : Port} {x : PortState} (h : x.pending = 0) : x.Owns q := by
  rw [PortState.Owns, h]
  exact BitVec.zero_and

theorem PortState.Told.refl (q : Port) (x : PortState) : x.Told q x :=
  ⟨0, BitVec.zero_and, by simp⟩

section
variable {q : Port} {x y z : PortState}

theorem PortState.Told.trans (h : x.Told q y) (g : y.Told q z) : x.Told q z := by
  obtain ⟨m, hm, rfl⟩ := h
  obtain ⟨n, hn, rfl⟩ := g
  exact ⟨m ||| n, by rw [BitVec.and_or_distrib_right, hm, hn], by rw [BitVec.or_assoc]⟩

theorem PortState.Told.owns (h : x.Told q y) (hx : x.Owns q) : y.Owns q := by
  obtain ⟨m, hm, rfl⟩ := h
  simp only [PortState.Owns, BitVec.and_or_distrib_right, hm]
  rw [hx]

/-- A port that is told loses no pending notice. -/
theorem PortState.Told.pending_and (h : x.Told q y) : y.pending &&& x.pending = x.pending := by
  obtain ⟨m, -, rfl⟩ := h
  rw [BitVec.and_comm]
  ext i
  simp +contextual

theorem PortState.Told.fields (h : x.Told q y) : y.rx = x.rx ∧ y.cursor = x.cursor ∧ y.mask = x.mask := by
  obtain ⟨m, -, rfl⟩ := h
  exact ⟨rfl, rfl, rfl⟩

end

theorem told_raise (s : State) (n : Notice) (q : Port) : (s.port q).Told q ((s.raise n).port q) := by
  rw [port_raise]
  split
  · exact ⟨n.bit, bit_mem_noticesOf ‹_›, rfl⟩
  · exact .refl q _

/-! ### Changes that reach the ports by notices alone -/

/-- The receive states of the sensor links, the last sequence and last reply, power, the strap and the waiting commands. -/
def State.lines (s : State) : List Instr × Power × Baud × LinkRx × LinkRx × Option Reply × Option Byte × Option Reply :=
  (s.pending, s.power, s.baud, s.probeRx, s.boardRx, s.boardOut, s.lastSeq, s.lastReply)

theorem lines_eq_iff {s t : State} : t.lines = s.lines ↔
    t.pending = s.pending ∧ t.power = s.power ∧ t.baud = s.baud ∧ t.probeRx = s.probeRx ∧ t.boardRx = s.boardRx ∧
      t.boardOut = s.boardOut ∧ t.lastSeq = s.lastSeq ∧ t.lastReply = s.lastReply := by
  simp [State.lines]

/-- A change that the ports see only as notices raised to them, with power as it was. -/
structure State.Informs (s t : State) : Prop where
  ports : ∀ q, (s.port q).Told q (t.port q) := by exact fun q => .refl q _
  power : t.power = s.power := by rfl

/-- A change that the ports see only as notices raised to them, and that no link, no waiting command and no power flag sees. -/
structure State.Notifies (s t : State) : Prop where
  ports : ∀ q, (s.port q).Told q (t.port q) := by exact fun q => .refl q _
  lines : t.lines = s.lines := by rfl

section
variable {s t u : State}

theorem State.Informs.trans (h : s.Informs t) (g : t.Informs u) : s.Informs u where
  ports q := (h.ports q).trans (g.ports q)
  power := g.power.trans h.power

theorem State.Notifies.informs (h : s.Notifies t) : s.Informs t where
  ports := h.ports
  power := (lines_eq_iff.1 h.lines).2.1

theorem State.Notifies.refl (s : State) : s.Notifies s := {}

theorem State.Notifies.trans (h : s.Notifies t) (g : t.Notifies u) : s.Notifies u where
  ports q := (h.ports q).trans (g.ports q)
  lines := g.lines.trans h.lines

theorem notifies_raise (s : State) (n : Notice) : s.Notifies (s.raise n) where
  ports := told_raise s n

theorem notifies_offer (s : State) (c : ChamberNo) (ev : Event) : s.Notifies (s.offer c ev) where
  ports q := by
    obtain h | h := port_offer s c ev q <;> rw [h]
    · exact told_raise s .ring q
    · exact .refl q _

/-! A record replaced is not seen by any port. -/

theorem notifies_modChamber (s : State) (c : ChamberNo) (f : Chamber → Chamber) : s.Notifies (s.modChamber c f) := {}
theorem notifies_setMonitor (s : State) (c : ChamberNo) (d : DoorMonitor) : s.Notifies (s.setMonitor c d) := {}
theorem notifies_modBound (s : State) (c : ChamberNo) (f : Charge → Charge) : s.Notifies (s.modBound c f) := {}
theorem notifies_modCharge (s : State) (k : Fin 8) (f : Charge → Charge) : s.Notifies (s.modCharge k f) := {}
theorem notifies_setPack (s : State) (k : Fin 16) (x : Option Pack) : s.Notifies (s.setPack k x) := {}

theorem State.Notifies.raised (h : s.Notifies t) (n : Notice) : s.Notifies (t.raise n) := h.trans (notifies_raise t n)

theorem State.Notifies.offered (h : s.Notifies t) (c : ChamberNo) (ev : Event) : s.Notifies (t.offer c ev) :=
  h.trans (notifies_offer t c ev)

theorem notifies_checkBlocked (s : State) : s.Notifies s.checkBlocked := by
  obtain h | ⟨-, -, h⟩ := checkBlocked_cases s <;> rw [h]
  · exact .refl s
  · exact { ports := told_raise s .block }

end

/-! ### Packs, draws and boards -/

section
variable {s t : State}

theorem notifies_closePack {cause : CloseCause} {k : Fin 16} {p : Pack} (h : s.closePack cause k p = some t) :
    s.Notifies t := by
  obtain ⟨v, -, rfl⟩ := closePack_some h
  exact { ports := told_raise s .label }

theorem notifies_endDraw {d : Draw} (h : s.endDraw d = some t) : s.Notifies t := by
  obtain ⟨u, hu, rfl⟩ := Option.map_eq_some_iff.1 h
  have hclosed : s.Notifies u := by
    unfold State.closeOpen at hu
    split at hu
    · exact notifies_closePack hu
    · cases hu; exact .refl s
  exact (State.Notifies.raised (hclosed.trans {}) .draw).trans (notifies_checkBlocked _)

theorem notifies_packForMove {b : BoardRecord} {k : Fin 16} {p : Pack} (h : s.packForMove b = some (t, k, p)) :
    s.Notifies t := by
  unfold State.packForMove at h
  split at h
  · cases h; exact .refl s
  · split at h <;> cases h
    exact {}

theorem notifies_addBoard (s : State) (b : BoardRecord) (rest : List BoardRecord) (k : Fin 16) (p : Pack) :
    s.Notifies (s.addBoard b rest k p) :=
  ((notifies_setPack s k (some (p.add b))).trans (notifies_modCharge _ b.slot (Charge.addPacked b))).trans {}

theorem notifies_moveBoard {b : BoardRecord} {rest : List BoardRecord} (h : s.moveBoard b rest = some t) : s.Notifies t := by
  unfold State.moveBoard at h
  split at h
  · cases h
  · rename_i u k p hu
    obtain ⟨w, hw, rfl⟩ := Option.map_eq_some_iff.1 h
    have hadd := (notifies_packForMove hu).trans (notifies_addBoard u b rest k p)
    have hunblocked : s.Notifies { u.addBoard b rest k p with blocked := false } := hadd.trans {}
    refine State.Notifies.trans (hunblocked.trans ?_) (notifies_checkBlocked w)
    split at hw
    · exact notifies_closePack hw
    · cases hw; exact .refl _

theorem notifies_expireSilence {x : Silence} (h : s.expireSilence x = some t) : s.Notifies t := by
  unfold State.expireSilence at h
  dsimp only at h
  split at h
  · cases h; exact {}
  · have hidle : s.Notifies ({ s with silence := none }.raise .idle) := .raised {} .idle
    split at h
    · obtain ⟨w, hw, rfl⟩ := Option.map_eq_some_iff.1 h
      exact (hidle.trans (notifies_closePack hw)).trans (notifies_checkBlocked w)
    · cases h; exact hidle

theorem notifies_countAndDispose (s : State) (d : Draw) (ch : Charge) (rem g : Nat) (b : Board) :
    s.Notifies (s.countAndDispose d ch rem g b).1 := by
  unfold State.countAndDispose
  dsimp only
  split <;> split <;> exact {}

/-- A grading tells the ports of a resync and of a block; the reply it sends is the board link's own (R106 to R111). -/
theorem informs_grade {b : Board} (h : s.grade b = some t) : s.Informs t := by
  unfold State.grade at h
  split at h
  · cases h; exact {}
  · unfold State.gradeNew at h
    dsimp only at h
    have hseq : s.Notifies (if (sequenceGap s.lastSeq b.sequence).2 = true then s.raise .seq else s) :=
      ite_keeps (notifies_raise s .seq) (.refl s)
    generalize (if (sequenceGap s.lastSeq b.sequence).2 = true then s.raise .seq else s) = u at h hseq
    refine hseq.informs.trans ?_
    split at h
    · cases h; exact {}
    · split at h
      · cases h; exact {}
      · split at h
        · cases h
        · split at h <;> cases h
          exact ((notifies_countAndDispose u _ _ _ _ b).informs.trans {}).trans (notifies_checkBlocked _).informs

end

/-! ### Readings -/

section
variable {s t : State}

theorem notifies_probeFaulted (s : State) (c : ChamberNo) (slot : Nat) (cause : Option FaultCause) :
    s.Notifies (s.probeFaulted c slot cause) := (notifies_raise s .probe).offered c _

theorem notifies_sampleReading {c : ChamberNo} {i : Fin 16} {code : Nat} (h : sampleReading c i code s = some t) :
    s.Notifies t := by
  unfold sampleReading at h
  dsimp only at h
  split at h
  · cases h; exact {}
  · split at h
    · cases h
      split
      · exact {}
      · exact State.Notifies.trans {} (notifies_probeFaulted _ c _ _)
    · obtain ⟨sp, -, rfl⟩ := Option.map_eq_some_iff.1 h
      exact {}

theorem notifies_dryBulbReading (s : State) (c : ChamberNo) (code : Nat) : s.Notifies (dryBulbReading c code s) := by
  unfold dryBulbReading
  dsimp only
  split
  · exact {}
  · split
    · split
      · exact {}
      · exact State.Notifies.trans {} (notifies_probeFaulted _ c _ _)
    · exact {}

theorem notifies_takeReading {chamber channel code : Nat} (h : takeReading chamber channel code s = some t) :
    s.Notifies t := by
  unfold takeReading at h
  split at h
  · split at h
    · exact notifies_sampleReading h
    · split at h <;> cases h
      · exact notifies_dryBulbReading s _ code
      · exact .refl s
  · cases h; exact .refl s

end

/-! ### Runs -/

theorem notifies_complete (s : State) (c : ChamberNo) : s.Notifies (s.complete c) :=
  .offered (.raised {} .done) c .complete

theorem notifies_coolingEvents (s : State) (c : ChamberNo) (cause : CoolingCause) (coolTime : Nat) :
    s.Notifies (s.coolingEvents c cause coolTime) := by
  have hevents : s.Notifies
      (if cause = .abort then s.offer c (.cooling cause) else (s.offer c (.cooling cause)).raise .step) :=
    ite_keeps (notifies_offer s c _) ((notifies_offer s c _).raised .step)
  exact ite_keeps (hevents.trans (notifies_complete _ c)) hevents

theorem notifies_stepChange (s : State) (c : ChamberNo) (i : Nat) (st : Step) : s.Notifies (s.stepChange c i st) :=
  .raised {} .step

theorem notifies_intoCooling (s : State) (c : ChamberNo) (coolTemp : Nat) : s.Notifies (s.intoCooling c coolTemp) := {}

theorem notifies_bind (s : State) (c : ChamberNo) (k : Fin 8) : s.Notifies (s.bind c k) :=
  ((notifies_modCharge s k fun ch => { ch with state := .loaded, chamber := some c }).trans
    (notifies_modChamber _ c (Chamber.bindTo k))).trans {}

theorem notifies_beginRun (s : State) (c : ChamberNo) (origin : Port) (i : Nat) (st : Step) :
    s.Notifies (s.beginRun c origin i st) := .offered {} c (.start origin)

theorem notifies_abortRun (s : State) (c : ChamberNo) (sch : Schedule) : s.Notifies (s.abortRun c sch) :=
  ((notifies_modBound s c _).trans (notifies_intoCooling _ c _)).trans (notifies_coolingEvents _ c _ _)

theorem notifies_countStage (s : State) (c : ChamberNo) : s.Notifies (s.countStage c) := by
  have hcount : ∀ n, s.Notifies (s.setChamber c { s.chamber c with invalidCount := n }) := fun _ => {}
  have hblind : ∀ t : State, t.Notifies (t.blindHold c) := fun t =>
    .offered (.raised (.raised {} .probe) .held) c (.autoHold .lowProbes)
  exact ite_keeps ((hcount _).trans (hblind _)) (hcount _)

theorem notifies_manualAdvance (s : State) (c : ChamberNo) (v : RunView) (cmd : RunCommand) (cause : CoolingCause)
    (next : Option (Nat × Step)) : s.Notifies (s.manualAdvance c v cmd cause next) := by
  have hmark := notifies_modBound s c (Charge.mark .manualStep)
  cases next with
  | some next => exact (hmark.trans (notifies_stepChange _ c _ _)).offered c _
  | none => exact ((hmark.trans (notifies_intoCooling _ c _)).offered c _).trans (notifies_coolingEvents _ c _ _)

theorem notifies_carryOut (s : State) (c : ChamberNo) (v : RunView) (cmd : RunCommand) : s.Notifies (s.carryOut c v cmd) := by
  cases cmd with
  | hold | resume => exact ite_keeps ((notifies_modChamber s c _).offered c _) (notifies_offer s c _)
  | step | skipPhase => exact notifies_manualAdvance s c v _ _ _

theorem notifies_commandStage (s : State) (c : ChamberNo) (v : RunView) : s.Notifies (s.commandStage c v) := by
  have htaken : ∀ rest, s.Notifies (s.setChamber c { s.chamber c with queue := rest }) := fun _ => {}
  unfold State.commandStage
  dsimp only
  split
  · exact (htaken _).trans (notifies_carryOut _ c v _)
  · exact (htaken _).trans (notifies_carryOut _ c v _)
  · exact .refl s

theorem notifies_runStage (s : State) (c : ChamberNo) (v : RunView) (loaded : Nat) : s.Notifies (s.runStage c v loaded) := by
  have hdwell := notifies_modChamber s c fun x => { x with dwell := satAdd Config.maxCount x.dwell loaded }
  unfold State.runStage
  dsimp only
  refine hdwell.trans ?_
  split
  · split
    · exact ((notifies_stepChange _ c _ _).offered c _).trans (notifies_modChamber _ c _)
    · exact (notifies_intoCooling _ c _).trans (notifies_coolingEvents _ c _ _)
  · exact notifies_modChamber _ c _

theorem notifies_evaluate (s : State) (c : ChamberNo) (v : RunView) (loaded : Nat) : s.Notifies (s.evaluate c v loaded) := by
  have hstats : s.Notifies (s.statsStage c) := {}
  have hserved := (hstats.trans (notifies_countStage _ c)).trans (notifies_commandStage _ c v)
  have hrun := fun p [Decidable p] => ite_keeps (p := p) (hserved.trans (notifies_runStage _ c v loaded)) hserved
  have hcooling : ∀ t : State, t.Notifies (t.coolingStage c v loaded) := fun t =>
    ite_keeps ((notifies_modChamber t c _).trans (notifies_complete _ c)) (notifies_modChamber t c _)
  have hcountdown : ∀ t : State, t.Notifies (t.countdownStage c) := fun t => ite_keeps (.refl t) (notifies_modChamber t c _)
  exact State.Notifies.trans (ite_keeps ((hrun _).trans (hcooling _)) (hrun _)) (hcountdown _)

/-! ### Doors and power return -/

theorem notifies_opened (s : State) (c : ChamberNo) : s.Notifies (s.opened c) := by
  have hhold : ∀ ret, s.Notifies (s.beginHold c ret) := fun _ => .offered {} c (.doorOpen true)
  unfold State.opened
  split
  · exact hhold _
  · exact hhold _
  all_goals exact notifies_offer s c _

theorem notifies_endHold (s : State) (c : ChamberNo) (h : DoorHold) (ret : ChamberState) : s.Notifies (s.endHold c h ret) := by
  have hcounted := notifies_modBound s c fun ch =>
    { ch with doorSeconds := satAdd Config.maxCount ch.doorSeconds (h.openTime / 64) }
  have hover := hcounted.trans (notifies_setMonitor _ c { s.monitor c with hold := none })
  have hstate := fun f => hover.trans (notifies_modChamber _ c f)
  unfold State.endHold
  dsimp only
  split
  · exact (((hstate _).trans (notifies_modBound _ c _)).raised .held |>.offered c _).offered c _
  · exact (hstate _).offered c _

theorem notifies_shut (s : State) (c : ChamberNo) : s.Notifies (s.shut c) := by
  unfold State.shut
  split
  · exact notifies_endHold s c _ _
  · exact notifies_offer s c _

theorem notifies_acceptDoor (s : State) (c : ChamberNo) (level : DoorLevel) : s.Notifies (s.acceptDoor c level) := by
  cases level with
  | opened => exact (notifies_setMonitor s c _).trans (notifies_opened _ c)
  | closed => exact (notifies_setMonitor s c _).trans (notifies_shut _ c)

theorem notifies_sampleDoor (s : State) (c : ChamberNo) (level : DoorLevel) : s.Notifies (s.sampleDoor c level) := by
  unfold State.sampleDoor
  dsimp only
  split
  · exact notifies_setMonitor s c _
  · split
    · exact notifies_setMonitor s c _
    · exact ite_keeps ((notifies_setMonitor s c _).trans (notifies_acceptDoor _ c level)) (notifies_setMonitor s c _)

theorem notifies_doorAtReturn (s : State) (c : ChamberNo) : s.Notifies (s.doorAtReturn c) := by
  unfold State.doorAtReturn
  split <;> exact {}

/-- A chamber at power return tells the ports of a hold and of its ring (R94, R87). -/
theorem notifies_chamberReturn (s : State) (c : ChamberNo) (level : DoorLevel) : s.Notifies (s.chamberReturn c level) := by
  have hdoor := (notifies_setMonitor s c { s.monitor c with input := level, door := level, debounce := none }).trans
    (notifies_doorAtReturn _ c)
  unfold State.chamberReturn
  dsimp only
  generalize State.doorAtReturn c _ = u at hdoor
  have hcount := hdoor.trans (notifies_modChamber u c Chamber.atReturn)
  have hheld := fun p [Decidable p] => ite_keeps (P := s.Notifies) (p := p)
    (t := ((u.modChamber c Chamber.atReturn).modBound c (Charge.mark .powerHold)).raise .held)
    ((hcount.trans (notifies_modBound _ c _)).raised .held) hcount
  exact ite_keeps (hheld _) ((hheld _).offered c _)

end Sys2Proof.Machine
end

-- ==== Proofs: what a request leaves of the other ports ====
section
/-! R149, R154, R160: a request is answered at its own port; the other ports see the notices it raises, and no link, no power flag
and no waiting command sees it. -/

namespace Sys2Proof.Machine

/-- What a request at port `p` can do to ports and links: the other ports are told of notices, port `p` still holds only names raised
to it, and the links stand. -/
structure State.Serves (p : Port) (s t : State) : Prop where
  others : ∀ q, q ≠ p → (s.port q).Told q (t.port q)
  owns : (s.port p).Owns p → (t.port p).Owns p
  lines : t.lines = s.lines

section
variable {s t u : State} {p : Port}

theorem State.Notifies.serves (h : s.Notifies t) (p : Port) : s.Serves p t where
  others q _ := h.ports q
  owns := (h.ports p).owns
  lines := h.lines

theorem State.Serves.refl (p : Port) (s : State) : s.Serves p s := (State.Notifies.refl s).serves p

theorem State.Serves.trans (h : s.Serves p t) (g : t.Serves p u) : s.Serves p u where
  others q hq := (h.others q hq).trans (g.others q hq)
  owns := g.owns ∘ h.owns
  lines := g.lines.trans h.lines

/-- Port `p` replaced by a record that holds only names raised to it. -/
theorem serves_setPort {x : PortState} (hx : (s.port p).Owns p → x.Owns p) : s.Serves p (s.setPort p x) where
  others q hq := by rw [State.port_setPort_other s x hq.symm]; exact .refl q _
  owns := by rwa [State.port_setPort_same]
  lines := rfl

theorem serves_setRx (s : State) (p : Port) (rx : PortRx) : s.Serves p (s.setRx p rx) := serves_setPort id

/-- A request serves its port when its owner does. -/
theorem request_serves {r : Request} {tag : Byte} {owner : State → Owned} (ho : Answered (s.Serves p) (owner s))
    (h : request r p tag owner s = .next t) : s.Serves p t :=
  request_keeps (fun u _ hu => hu.trans (serves_setRx u p _)) (.refl p s) ho h

end

/-! ### Owners of requests -/

/-- What an owner answers, if it answers, is seen by ports and links as notices alone. -/
abbrev Informed (s : State) (o : Owned) : Prop := Answered s.Notifies o

section
variable {s : State}

theorem loadOwner_informed (params : List Byte) : Informed s (loadOwner params s) := by
  unfold loadOwner
  split
  · refine answered_withChamber (.refl s) fun c => ?_
    split
    · exact answered_some {}
    · split
      · exact answered_some {}
      · split
        · exact answered_some {}
        · exact answered_some (notifies_bind s c _)
  · exact answered_some {}

theorem startOwner_informed (origin : Port) (params : List Byte) : Informed s (startOwner origin params s) := by
  unfold startOwner
  split
  · refine answered_withChamber (.refl s) fun c => ?_
    split
    · exact answered_some {}
    · split
      · exact answered_some {}
      · split
        · exact answered_none
        · dsimp only
          split
          · exact answered_none
          · have hstats : s.Notifies (s.computeStats c) := {}
            exact answered_some (hstats.trans (notifies_beginRun _ c _ _ _))
  · exact answered_some {}

theorem abortOwner_informed (params : List Byte) : Informed s (abortOwner params s) := by
  unfold abortOwner
  split
  · refine answered_withChamber (.refl s) fun c => ?_
    split
    · exact answered_some {}
    · split
      · exact answered_none
      · exact answered_some (notifies_abortRun s c _)
  · exact answered_some {}

theorem releaseOwner_informed (params : List Byte) : Informed s (releaseOwner params s) := by
  unfold releaseOwner
  split
  · refine answered_withChamber (.refl s) fun c => ?_
    split
    · exact answered_some {}
    · split
      · exact answered_none
      · exact answered_some {}
  · exact answered_some {}

theorem queueOwner_informed (cmd : RunCommand) (params : List Byte) : Informed s (queueOwner cmd params s) := by
  unfold queueOwner
  split
  · refine answered_withChamber (.refl s) fun c => ?_
    dsimp only
    repeat' split
    all_goals exact answered_some {}
  · exact answered_some {}

theorem chamberSetOwner_informed (params : List Byte) : Informed s (chamberSetOwner params s) := by
  unfold chamberSetOwner
  split
  · refine answered_withChamber (.refl s) fun c => ?_
    split <;> exact answered_some {}
  · exact answered_some {}

theorem probeEnableOwner_informed (params : List Byte) : Informed s (probeEnableOwner params s) := by
  unfold probeEnableOwner
  split
  · exact answered_withChamber (.refl s) fun _ => answered_some {}
  · exact answered_some {}

theorem checkOwner_informed (params : List Byte) : Informed s (checkOwner params s) := by
  unfold checkOwner
  split
  · split
    · split
      · exact answered_some {}
      · split
        · exact answered_some {}
        · split
          · exact answered_some (.offered {} _ _)
          all_goals exact answered_some {}
    · exact answered_some {}
  · exact answered_some {}

theorem markOwner_informed (origin : Port) (params : List Byte) : Informed s (markOwner origin params s) := by
  unfold markOwner
  split
  · refine answered_withChamber (.refl s) fun c => ?_
    dsimp only
    split
    all_goals exact answered_some (notifies_offer s c _)
  · exact answered_some {}

theorem endDrawOwner_informed : Informed s (endDrawOwner s) := by
  unfold endDrawOwner
  split
  · split
    · exact answered_some {}
    · split
      · exact answered_none
      · exact answered_some {}
  · exact answered_some {}

theorem closePackOwner_informed : Informed s (closePackOwner s) := by
  unfold closePackOwner
  split
  · exact answered_some {}
  · intro t a h
    obtain ⟨u, hu, he⟩ := Option.map_eq_some_iff.1 h
    obtain ⟨rfl, -⟩ := Prod.mk.inj he
    exact (notifies_closePack hu).trans (notifies_checkBlocked u)

theorem nextLabelOwner_informed : Informed s (nextLabelOwner s) := by
  unfold nextLabelOwner
  split
  · exact answered_some {}
  · split
    · exact answered_none
    · exact answered_some {}

theorem reprintOwner_informed (params : List Byte) : Informed s (reprintOwner params s) := by
  unfold reprintOwner
  split
  · dsimp only
    split
    · exact answered_some {}
    · split
      · exact answered_some {}
      · split
        · exact answered_none
        · exact answered_some {}
  · exact answered_some {}

/-! These owners read no link and raise no notice: each of their branches answers with the ports and links of `s`. -/

theorem drawOwner_informed (params : List Byte) : Informed s (drawOwner params s) := by
  unfold drawOwner
  repeat' split
  all_goals exact answered_some {}

theorem newChargeOwner_informed (params : List Byte) : Informed s (newChargeOwner params s) := by
  unfold newChargeOwner createCharge
  dsimp only
  repeat' split
  all_goals exact answered_some {}

theorem deleteChargeOwner_informed (params : List Byte) : Informed s (deleteChargeOwner params s) := by
  unfold deleteChargeOwner
  repeat' split
  all_goals exact answered_some {}

theorem commitScheduleOwner_informed (params : List Byte) : Informed s (commitScheduleOwner params s) := by
  unfold commitScheduleOwner
  repeat' split
  all_goals exact answered_some {}

theorem clearScheduleOwner_informed (params : List Byte) : Informed s (clearScheduleOwner params s) := by
  unfold clearScheduleOwner
  repeat' split
  all_goals exact answered_some {}

theorem packPlanOwner_informed (params : List Byte) : Informed s (packPlanOwner params s) := by
  unfold packPlanOwner
  repeat' split
  all_goals exact answered_some {}

theorem ackLabelOwner_informed (params : List Byte) : Informed s (ackLabelOwner params s) := by
  unfold ackLabelOwner
  dsimp only
  repeat' split
  all_goals exact answered_some {}

theorem setTimeOwner_informed (params : List Byte) : Informed s (setTimeOwner params s) := by
  unfold setTimeOwner
  split <;> exact answered_some {}

/-! These owners are the port controller itself, or step its cursor: they replace the record of their own port. -/

section
variable {p : Port}

/-- A taken WRITE replaces a record, which no port sees, and steps the cursor of its port (R156). -/
theorem stepWritten_serves {t : State} (h : s.Notifies t) (count : Nat) : s.Serves p (t.stepWritten p count) :=
  (h.serves p).trans (serves_setPort id)

theorem writeStagingOwner_serves (params : List Byte) : Answered (s.Serves p) (writeStagingOwner p params s) := by
  unfold writeStagingOwner
  split
  all_goals
    split
    · exact answered_some (stepWritten_serves {} 13)
    · exact answered_some (.refl p s)

theorem writeSpeciesOwner_serves (params : List Byte) : Answered (s.Serves p) (writeSpeciesOwner p params s) := by
  unfold writeSpeciesOwner
  split
  · exact answered_some (.refl p s)
  · dsimp only
    split
    · exact answered_some (.refl p s)
    · split
      · exact answered_some (.refl p s)
      · exact answered_some (stepWritten_serves {} 8)

theorem writeOwner_serves (params : List Byte) : Answered (s.Serves p) (writeOwner p params s) := by
  unfold writeOwner
  split
  · exact writeStagingOwner_serves params
  · exact writeSpeciesOwner_serves params
  all_goals exact answered_some (.refl p s)

theorem setCursorOwner_serves (params : List Byte) : Answered (s.Serves p) (setCursorOwner p params s) := by
  unfold setCursorOwner
  split
  · split
    · split
      · exact answered_some (serves_setPort id)
      · exact answered_some (.refl p s)
    · exact answered_some (.refl p s)
  · exact answered_some (.refl p s)

theorem readOwner_serves : Answered (s.Serves p) (readOwner p s) := by
  unfold readOwner
  dsimp only
  split
  · exact answered_some (.refl p s)
  · exact answered_some (serves_setPort id)

theorem readNoticesOwner_serves : Answered (s.Serves p) (readNoticesOwner p s) :=
  answered_some (serves_setPort fun _ => .pending_zero rfl)

theorem setNoticeMaskOwner_serves (params : List Byte) : Answered (s.Serves p) (setNoticeMaskOwner p params s) := by
  unfold setNoticeMaskOwner
  split
  · dsimp only
    split
    · exact answered_some (.refl p s)
    · exact answered_some (serves_setPort id)
  · exact answered_some (.refl p s)

/-- Every owner leaves the other ports and the links alone but for notices. -/
theorem ownerOf_serves (p : Port) (ps : List Byte) (r : Request) (s : State) : Answered (s.Serves p) (ownerOf p ps r s) := by
  have hinformed : ∀ {o}, Informed s o → Answered (s.Serves p) o := fun ho t a h => (ho t a h).serves p
  cases r with
  | load => exact hinformed (loadOwner_informed ps)
  | start => exact hinformed (startOwner_informed p ps)
  | hold => exact hinformed (queueOwner_informed .hold ps)
  | resume => exact hinformed (queueOwner_informed .resume ps)
  | step => exact hinformed (queueOwner_informed .step ps)
  | skipPhase => exact hinformed (queueOwner_informed .skipPhase ps)
  | abort => exact hinformed (abortOwner_informed ps)
  | release => exact hinformed (releaseOwner_informed ps)
  | check => exact hinformed (checkOwner_informed ps)
  | probeEnable => exact hinformed (probeEnableOwner_informed ps)
  | chamberSet => exact hinformed (chamberSetOwner_informed ps)
  | draw => exact hinformed (drawOwner_informed ps)
  | endDraw => exact hinformed endDrawOwner_informed
  | closePack => exact hinformed closePackOwner_informed
  | newCharge => exact hinformed (newChargeOwner_informed ps)
  | deleteCharge => exact hinformed (deleteChargeOwner_informed ps)
  | write => exact writeOwner_serves ps
  | commitSchedule => exact hinformed (commitScheduleOwner_informed ps)
  | clearSchedule => exact hinformed (clearScheduleOwner_informed ps)
  | packPlan => exact hinformed (packPlanOwner_informed ps)
  | nextLabel => exact hinformed nextLabelOwner_informed
  | ackLabel => exact hinformed (ackLabelOwner_informed ps)
  | reprint => exact hinformed (reprintOwner_informed ps)
  | setTime => exact hinformed (setTimeOwner_informed ps)
  | setCursor => exact setCursorOwner_serves ps
  | read => exact readOwner_serves
  | readNotices => exact readNoticesOwner_serves
  | setNoticeMask => exact setNoticeMaskOwner_serves ps
  | status => exact answered_some (.refl p s)
  | mark => exact hinformed (markOwner_informed p ps)

end

end

/-! ### Request frames -/

theorem execUnknownRequest_serves {p : Port} {code tag : Byte} {s t : State} (h : execUnknownRequest p code tag s = .next t) :
    s.Serves p t := by
  unfold execUnknownRequest at h
  split at h
  · cases h
  · split at h <;> cases h
    · exact serves_setRx s p _
    · exact .refl p s

/-- Every framed command serves the port its frame arrived at. -/
theorem exec_serves {i : Instr} {p : Port} {code tag : Byte} {ps : List Byte} {s t : State}
    (hf : i.framed = some (p, code, tag, ps)) (h : exec i s = .next t) : s.Serves p t := by
  obtain ⟨rfl, -⟩ | ⟨rfl, -⟩ | ⟨r, -, rfl⟩ := framed_cases hf
  · exact execUnknownRequest_serves h
  · exact request_serves (ownerOf_serves p ps .write s) h
  · rw [exec_requestCommand] at h
    exact request_serves (ownerOf_serves p ps r s) h

/-- Settles O5: what a request at its port does to the other ports is to raise notices. -/
theorem otherPortsUndisturbed : Obligations.OtherPortsUndisturbed := by
  intro i p code tag ps s t hf h
  have hserves := exec_serves hf h
  obtain ⟨hpending, hpower, hbaud, hprobe, hboard, hout, hseq, hreply⟩ := lines_eq_iff.1 hserves.lines
  refine ⟨fun q hq => ?_, hprobe, hboard, hout, hseq, hreply, hpower, hbaud, hpending⟩
  obtain ⟨hrx, hcursor, hmask⟩ := (hserves.others q hq).fields
  exact ⟨hrx, hcursor, hmask, (hserves.others q hq).pending_and⟩

end Sys2Proof.Machine
end

-- ==== Proofs: every step keeps ports and power ====
section
/-! R159, R168: the commands that do not set power keep each port's names its own and power as it was, and with main power off do
nothing but the wrap of mill time; the commands that set power one by one. -/

namespace Sys2Proof.Machine

/-- A change that leaves to every port only names raised to it, and power as it was. -/
structure State.KeepsPorts (s t : State) : Prop where
  own : s.NoticesOwn → t.NoticesOwn := by exact id
  power : t.power = s.power := by rfl

section
variable {s t u : State}

theorem State.KeepsPorts.refl (s : State) : s.KeepsPorts s := {}

theorem State.KeepsPorts.trans (h : s.KeepsPorts t) (g : t.KeepsPorts u) : s.KeepsPorts u where
  own := g.own ∘ h.own
  power := g.power.trans h.power

theorem noticesOwn_of_told (h : ∀ q, (s.port q).Told q (t.port q)) (hs : s.NoticesOwn) : t.NoticesOwn :=
  noticesOwn_iff.2 fun q => (h q).owns (noticesOwn_iff.1 hs q)

theorem State.Informs.keepsPorts (h : s.Informs t) : s.KeepsPorts t where
  own := noticesOwn_of_told h.ports
  power := h.power

theorem State.Notifies.keepsPorts (h : s.Notifies t) : s.KeepsPorts t := h.informs.keepsPorts

theorem State.Serves.keepsPorts {p : Port} (h : s.Serves p t) : s.KeepsPorts t where
  own hs := noticesOwn_iff.2 fun q => by
    have hown := noticesOwn_iff.1 hs
    by_cases hq : q = p
    · subst hq
      exact h.owns (hown q)
    · exact (h.others q hq).owns (hown q)
  power := (lines_eq_iff.1 h.lines).2.1

theorem keepsPorts_setRx (s : State) (p : Port) (rx : PortRx) : s.KeepsPorts (s.setRx p rx) := (serves_setRx s p rx).keepsPorts

/-! ### Resets -/

theorem port_portsHome (s : State) (q : Port) : s.portsHome.port q = (s.port q).home := by
  cases q <;> rfl

/-- R163: after a reset no notice is pending. -/
theorem noticesOwn_home (h : ∀ q, t.port q = (s.port q).home) : t.NoticesOwn :=
  noticesOwn_iff.2 fun q => .pending_zero (by rw [h]; rfl)

theorem keepsPorts_portReset (s : State) : s.KeepsPorts s.portReset where
  own _ := noticesOwn_home (port_portsHome s)

theorem keepsPorts_clearReset (s : State) : s.KeepsPorts s.clearReset where
  own _ := noticesOwn_home (port_portsHome s)

/-! ### Commands that do not set power -/

/-- The commands that say what main power or VBAT does (R168 to R170). -/
def setsPower : Instr → Bool
  | .vbatRangeChange _ | .mainPowerLoss | .powerReturn .. | .clearedStart .. => true
  | _ => false

theorem whilePowered_keepsPorts {o : Host.Outcome State Fault Refusal} (ho : o = .next t → s.KeepsPorts t)
    (h : whilePowered s o = .next t) : s.KeepsPorts t :=
  whilePowered_keeps (P := s.KeepsPorts) (.refl s) ho h

/-- An event that changes `s` where a test holds. -/
theorem ite_keepsPorts {p : Prop} [Decidable p] (hu : s.KeepsPorts u)
    (h : Host.Outcome.next (φ := Fault) (ρ := Refusal) (if p then u else s) = .next t) : s.KeepsPorts t :=
  next_keeps (ite_keeps hu (.refl s)) h

theorem execProbeFrame_keepsPorts {chamber channel high low check : Byte}
    (h : execProbeFrame chamber channel high low check s = .next t) : s.KeepsPorts t := by
  have hs : s.KeepsPorts { s with probeRx := .hunt } := {}
  unfold execProbeFrame at h
  split at h
  · split at h
    · exact hs.trans (notifies_takeReading (orBroken_eq_next.1 h)).keepsPorts
    · cases h; exact hs
  · cases h; exact .refl s

theorem execBoardFrame_keepsPorts {sequence mcHigh mcLow lengthHigh lengthLow check : Byte}
    (h : execBoardFrame sequence mcHigh mcLow lengthHigh lengthLow check s = .next t) : s.KeepsPorts t := by
  have hs : s.KeepsPorts { s with boardRx := .hunt } := {}
  unfold execBoardFrame at h
  split at h
  · split at h
    · exact hs.trans (informs_grade (orBroken_eq_next.1 h)).keepsPorts
    · cases h; exact hs
  · cases h; exact .refl s

theorem execTallyMove_keepsPorts (h : execTallyMove s = .next t) : s.KeepsPorts t := by
  refine whilePowered_keepsPorts (fun h => ?_) h
  split at h
  · split at h
    · exact (notifies_moveBoard (orBroken_eq_next.1 h)).keepsPorts
    · cases h; exact .refl s
  · cases h; exact .refl s

theorem execDrawEnd_keepsPorts (h : execDrawEnd s = .next t) : s.KeepsPorts t := by
  refine whilePowered_keepsPorts (fun h => ?_) h
  split at h
  · split at h
    · exact (notifies_endDraw (orBroken_eq_next.1 h)).keepsPorts
    · cases h; exact .refl s
  · cases h; exact .refl s

theorem execLineSilenceExpiry_keepsPorts (h : execLineSilenceExpiry s = .next t) : s.KeepsPorts t := by
  refine whilePowered_keepsPorts (fun h => ?_) h
  split at h
  · split at h
    · exact (notifies_expireSilence (orBroken_eq_next.1 h)).keepsPorts
    · cases h; exact .refl s
  · cases h; exact .refl s

theorem execEvaluationInstant_keepsPorts {c : ChamberNo} (h : execEvaluationInstant c s = .next t) : s.KeepsPorts t := by
  refine whilePowered_keepsPorts (fun h => ?_) h
  split at h
  · split at h
    · obtain ⟨v, -, rfl⟩ := Option.map_eq_some_iff.1 (orBroken_eq_next.1 h)
      exact (notifies_evaluate s c v _).keepsPorts
    · cases h; exact .refl s
  · cases h; exact .refl s

/-- The wrap of mill time raises CLOCK at most, whether main power is on or off (R164, R166). -/
theorem execMillTimeWrap_informs (h : execMillTimeWrap s = .next t) :
    s.Informs t ∧ t.probeRx = s.probeRx ∧ t.boardRx = s.boardRx ∧ t.boardOut = s.boardOut := by
  cases h
  split
  · dsimp only
    split
    · exact ⟨{}, rfl, rfl, rfl⟩
    · exact ⟨{ ports := told_raise _ .clock }, rfl, rfl, rfl⟩
  · exact ⟨{}, rfl, rfl, rfl⟩

/-- Every command that does not set power keeps each port's names its own, and power. -/
theorem exec_keepsPorts {i : Instr} (hi : setsPower i = false) (h : exec i s = .next t) : s.KeepsPorts t := by
  cases hf : i.framed with
  | some frame => exact (exec_serves hf h).keepsPorts
  | none =>
    cases i with
    | requestFrameCrcFail p | portFrameBadLength p => exact ite_keepsPorts (keepsPorts_setRx s p _) h
    | portFrameWindowExpiry p | responseSent p | portStartByte p =>
      exact whilePowered_keepsPorts (ite_keepsPorts (keepsPorts_setRx s p _)) h
    | probeFrame => exact execProbeFrame_keepsPorts h
    | boardFrame => exact execBoardFrame_keepsPorts h
    | probeFrameWindowExpiry | boardFrameWindowExpiry | probeStartByte | boardStartByte =>
      exact whilePowered_keepsPorts (ite_keepsPorts {}) h
    | tallyMove => exact execTallyMove_keepsPorts h
    | drawEnd => exact execDrawEnd_keepsPorts h
    | lineSilenceExpiry => exact execLineSilenceExpiry_keepsPorts h
    | evaluationInstant => exact execEvaluationInstant_keepsPorts h
    | doorInputChange c level => exact whilePowered_keepsPorts (next_keeps (notifies_sampleDoor s c level).keepsPorts) h
    | doorDebounceExpiry c => exact whilePowered_keepsPorts (ite_keepsPorts (notifies_acceptDoor s c _).keepsPorts) h
    | doorLimitPassed c =>
      exact whilePowered_keepsPorts (ite_keepsPorts (State.Notifies.raised {} .door).keepsPorts) h
    | millTimeWrap => exact (execMillTimeWrap_informs h).1.keepsPorts
    | portReset => exact whilePowered_keepsPorts (next_keeps (keepsPorts_portReset s)) h
    | clearReset => exact whilePowered_keepsPorts (next_keeps (keepsPorts_clearReset s)) h
    | vbatRangeChange | mainPowerLoss | powerReturn | clearedStart => cases hi
    | _ => cases hf

/-! ### With main power off -/

theorem takesFrame_unpowered {p : Port} (h : s.power.main = false) : s.takesFrame p = false := by
  simp [State.takesFrame, h]

theorem whilePowered_unpowered {o : Host.Outcome State Fault Refusal} (h : s.power.main = false) :
    whilePowered s o = .next s := by
  simp [whilePowered, h]

/-- R168: with main power off a request frame is not taken. -/
theorem exec_framed_unpowered {i : Instr} {p : Port} {code tag : Byte} {ps : List Byte} (hm : s.power.main = false)
    (hf : i.framed = some (p, code, tag, ps)) (h : exec i s = .next t) : t = s := by
  have hdiscarded : ∀ {r} {owner : State → Owned}, request r p tag owner s = .next t → t = s := fun h => by
    rw [request_discarded (takesFrame_unpowered hm)] at h
    cases h; rfl
  obtain ⟨rfl, -⟩ | ⟨rfl, -⟩ | ⟨r, -, rfl⟩ := framed_cases hf
  · change execUnknownRequest p code tag s = _ at h
    rw [execUnknownRequest, takesFrame_unpowered hm] at h
    split at h <;> cases h
    rfl
  · exact hdiscarded h
  · rw [exec_requestCommand] at h
    exact hdiscarded h

/-- R168: with main power off no command does anything but the wrap of mill time and those that set power. -/
theorem exec_unpowered {i : Instr} (hm : s.power.main = false) (hi : setsPower i = false) (hw : i ≠ .millTimeWrap)
    (h : exec i s = .next t) : t = s := by
  have hevent : ∀ {o}, whilePowered s o = .next t → t = s := fun h => by
    rw [whilePowered_unpowered hm] at h
    cases h; rfl
  have hlink : ∀ rx, s.linkTakes rx = false := fun rx => by simp [State.linkTakes, hm]
  cases hf : i.framed with
  | some frame => exact exec_framed_unpowered hm hf h
  | none =>
    cases i with
    | requestFrameCrcFail p =>
      change execRequestFrameCrcFail p s = _ at h
      rw [execRequestFrameCrcFail, takesFrame_unpowered hm] at h
      cases h; rfl
    | portFrameBadLength p len =>
      change execPortFrameBadLength p len s = _ at h
      rw [execPortFrameBadLength, takesFrame_unpowered hm] at h
      cases h; rfl
    | probeFrame a b c d e =>
      change execProbeFrame a b c d e s = _ at h
      rw [execProbeFrame, hlink] at h
      cases h; rfl
    | boardFrame a b c d e f =>
      change execBoardFrame a b c d e f s = _ at h
      rw [execBoardFrame, hlink] at h
      cases h; rfl
    | portFrameWindowExpiry | responseSent | portStartByte | probeFrameWindowExpiry | boardFrameWindowExpiry
    | probeStartByte | boardStartByte | tallyMove | drawEnd | lineSilenceExpiry | evaluationInstant | doorInputChange
    | doorDebounceExpiry | doorLimitPassed | portReset | clearReset => exact hevent h
    | millTimeWrap => exact absurd rfl hw
    | vbatRangeChange | mainPowerLoss | powerReturn | clearedStart => cases hi
    | _ => cases hf

/-! ### Commands that set power -/

theorem powerKept_iff : s.PowerKept ↔
    (s.power.main = true → s.power.holdMarker = true ∧ s.power.backupValid = s.power.vbatInRange) ∧
    (s.power.main = false → s.probeRx = .hunt ∧ s.boardRx = .hunt ∧ s.boardOut = none ∧ ∀ q, (s.port q).rx = .hunt) := by
  have hports : (∀ q ∈ [Port.kiln, .line, .yard], (s.port q).rx = .hunt) ↔ ∀ q, (s.port q).rx = .hunt :=
    ⟨fun h q => h q (by cases q <;> decide), fun h q _ => h q⟩
  rw [State.PowerKept, hports]

/-- While main power is on, only the flags are asked for. -/
theorem powerKept_powered (hm : t.power.main = true) (hh : t.power.holdMarker = true)
    (hb : t.power.backupValid = t.power.vbatInRange) : t.PowerKept :=
  ⟨fun _ => ⟨hh, hb⟩, fun h => absurd (hm.symm.trans h) (by decide)⟩

/-- With main power off, only the receive states are asked for. -/
theorem powerKept_unpowered (hm : t.power.main = false) (hprobe : t.probeRx = .hunt) (hboard : t.boardRx = .hunt)
    (hout : t.boardOut = none) (hrx : ∀ q, (t.port q).rx = .hunt) : t.PowerKept :=
  ⟨fun h => absurd (hm.symm.trans h) (by decide), fun _ => ⟨hprobe, hboard, hout, fun q _ => hrx q⟩⟩

/-- With main power on, what keeps power keeps its flags in step. -/
theorem State.KeepsPorts.powerKept (h : s.KeepsPorts t) (hm : s.power.main = true) (hs : s.PowerKept) : t.PowerKept := by
  obtain ⟨hh, hb⟩ := hs.1 hm
  exact powerKept_powered (by rw [h.power, hm]) (by rw [h.power, hh]) (by rw [h.power, hb])

/-- VBAT changes flags alone (R168). -/
theorem execVbatRangeChange_kept {inRange : Bool} (h : execVbatRangeChange inRange s = .next t) :
    (s.NoticesOwn → t.NoticesOwn) ∧ (s.PowerKept → t.PowerKept) := by
  cases h
  split
  · rename_i hm
    exact ⟨id, fun hs => powerKept_powered hm (hs.1 hm).1 rfl⟩
  · rename_i hm
    refine ⟨id, fun hs => ?_⟩
    obtain ⟨hprobe, hboard, hout, hrx⟩ := (powerKept_iff.1 hs).2 (by simpa using hm)
    exact powerKept_unpowered (by simpa using hm) hprobe hboard hout hrx

/-- The loss of main power cuts every frame and response short (R168). -/
theorem execMainPowerLoss_kept (h : execMainPowerLoss s = .next t) :
    (s.NoticesOwn → t.NoticesOwn) ∧ (s.PowerKept → t.PowerKept) := by
  refine whilePowered_keeps (P := fun t => (s.NoticesOwn → t.NoticesOwn) ∧ (s.PowerKept → t.PowerKept)) ⟨id, id⟩ (fun h => ?_) h
  cases h
  have hport : ∀ q, s.linksLost.port q = (s.port q).hunting := by intro q; cases q <;> rfl
  refine ⟨fun hs => noticesOwn_iff.2 fun q => ?_, fun _ => powerKept_unpowered rfl rfl rfl rfl fun q => ?_⟩
  · change (s.linksLost.port q).Owns q
    rw [hport]
    exact noticesOwn_iff.1 hs q
  · change (s.linksLost.port q).rx = .hunt
    rw [hport]
    rfl

/-- What a power return does before it brings the chambers back (R135, R163, R168). -/
def State.readied (s : State) : State :=
  { s.portsHome.silenceReturn with
    power := ⟨true, s.power.vbatInRange, s.power.vbatInRange, true⟩
    lineReady := decide (s.fifo.length ≤ 24)
    blocked := s.tallyStuck }

/-- A power return, once ready, tells the ports of what it finds in the four chambers (R87, R94). -/
theorem notifies_powerReturn (s : State) (d0 d1 d2 d3 : DoorLevel) : s.readied.Notifies (s.powerReturn d0 d1 d2 d3) :=
  (((notifies_chamberReturn s.readied 0 d0).trans (notifies_chamberReturn _ 1 d1)).trans (notifies_chamberReturn _ 2 d2)).trans
    (notifies_chamberReturn _ 3 d3)

/-- A power return finds every port home and sets the flags (R163, R168, R169). -/
theorem powerReturn_kept (s : State) (d0 d1 d2 d3 : DoorLevel) :
    (s.powerReturn d0 d1 d2 d3).NoticesOwn ∧ (s.powerReturn d0 d1 d2 d3).PowerKept := by
  have hkept := (notifies_powerReturn s d0 d1 d2 d3).keepsPorts
  have hown : s.readied.NoticesOwn := noticesOwn_home (port_portsHome s)
  have hpower : s.readied.PowerKept := powerKept_powered rfl rfl rfl
  exact ⟨hkept.own hown, hkept.powerKept rfl hpower⟩

/-- After a cleared start CLOCK alone is pending, at the Yard port (R170). -/
theorem cleared_kept (d0 d1 d2 d3 : DoorLevel) (vbat : Bool) (baud : Baud) (queue : List Instr) :
    (State.cleared d0 d1 d2 d3 vbat baud queue).NoticesOwn ∧ (State.cleared d0 d1 d2 d3 vbat baud queue).PowerKept := by
  refine ⟨noticesOwn_iff.2 fun q => ?_, powerKept_powered rfl rfl rfl⟩
  cases q with
  | kiln | line => exact .pending_zero rfl
  | yard => exact bit_mem_noticesOf (n := .clock) rfl

theorem mainReturns_kept (s : State) (d0 d1 d2 d3 : DoorLevel) :
    (s.mainReturns d0 d1 d2 d3).NoticesOwn ∧ (s.mainReturns d0 d1 d2 d3).PowerKept :=
  ite_keeps (P := fun t => t.NoticesOwn ∧ t.PowerKept) (powerReturn_kept s d0 d1 d2 d3) (cleared_kept d0 d1 d2 d3 _ _ _)

/-- The return of main power, whichever row it is, with main power off; nothing with it on. -/
theorem return_kept {d0 d1 d2 d3 : DoorLevel}
    (h : Host.Outcome.next (φ := Fault) (ρ := Refusal) (if s.power.main then s else s.mainReturns d0 d1 d2 d3) = .next t) :
    (s.NoticesOwn → t.NoticesOwn) ∧ (s.PowerKept → t.PowerKept) := by
  obtain ⟨hown, hpower⟩ := mainReturns_kept s d0 d1 d2 d3
  exact next_keeps (P := fun t => (s.NoticesOwn → t.NoticesOwn) ∧ (s.PowerKept → t.PowerKept))
    (ite_keeps (P := fun t => (s.NoticesOwn → t.NoticesOwn) ∧ (s.PowerKept → t.PowerKept))
      ⟨id, id⟩ ⟨fun _ => hown, fun _ => hpower⟩) h

/-! ### Every command and every step -/

/-- A command that does not set power keeps the flags in step: with main power on it leaves power alone, with it off it does
nothing but the wrap. -/
theorem exec_powerKept {i : Instr} (hi : setsPower i = false) (h : exec i s = .next t) (hs : s.PowerKept) : t.PowerKept := by
  cases hm : s.power.main with
  | true => exact (exec_keepsPorts hi h).powerKept hm hs
  | false =>
    by_cases hw : i = .millTimeWrap
    · subst hw
      obtain ⟨hinforms, hprobe, hboard, hout⟩ := execMillTimeWrap_informs h
      obtain ⟨hprobe', hboard', hout', hrx⟩ := (powerKept_iff.1 hs).2 hm
      exact powerKept_unpowered (by rw [hinforms.power, hm]) (hprobe.trans hprobe') (hboard.trans hboard') (hout.trans hout')
        fun q => (hinforms.ports q).fields.1.trans (hrx q)
    · rw [exec_unpowered hm hi hw h]
      exact hs

/-- Every command keeps each port's names its own, and power and its flags in step. -/
theorem exec_kept {i : Instr} (h : exec i s = .next t) : (s.NoticesOwn → t.NoticesOwn) ∧ (s.PowerKept → t.PowerKept) := by
  cases hi : setsPower i with
  | false => exact ⟨(exec_keepsPorts hi h).own, exec_powerKept hi h⟩
  | true =>
    cases i with
    | vbatRangeChange => exact execVbatRangeChange_kept h
    | mainPowerLoss => exact execMainPowerLoss_kept h
    | powerReturn | clearedStart => exact return_kept h
    | _ => cases hi

theorem port_tickMain (s : State) (q : Port) : s.tickMain.port q = (s.port q).tick := by
  cases q <;> rfl

/-- With no command waiting the ports count time alone, and with main power off not even that (R167, R168). -/
theorem idle_kept (s : State) : (s.NoticesOwn → s.idle.NoticesOwn) ∧ (s.PowerKept → s.idle.PowerKept) := by
  have hticked : s.KeepsPorts s.tickBackup.tickMain := {
    own := fun hs => noticesOwn_iff.2 fun q => by
      rw [port_tickMain]
      exact noticesOwn_iff.1 hs q }
  unfold State.idle
  split
  · unfold State.tick
    dsimp only
    split
    · rename_i hm
      exact ⟨hticked.own, hticked.powerKept hm⟩
    · exact ⟨id, id⟩
  · exact ⟨id, id⟩

end

/-- Settles O52: by the command at the front of the queue, or the passing of time. -/
theorem portsKept : Obligations.PortsKept := by
  intro s t h
  obtain ⟨i, rest, -, hexec⟩ | ⟨-, rfl⟩ := step_next h
  · exact exec_kept (s := { s with pending := rest }) hexec
  · exact idle_kept s

end Sys2Proof.Machine
end

-- ==== Proofs: frame events, cursors and notices ====
section
/-! R149 to R161: the frame events of a port, its cursor, its pending set and its mask. -/

namespace Sys2Proof.Machine

/-! ### Frame events -/

section
variable {s : State} {p : Port}

/-- A frame is taken in FRAME inside the window of 250 ms, sixteen sixty-fourths, with main power on (R149, R168). -/
theorem takesFrame_iff : s.takesFrame p = true ↔ s.power.main = true ∧ ∃ e, (s.port p).rx = .frame e ∧ e < 16 := by
  unfold State.takesFrame
  split <;> simp_all

theorem takesFrame_powered (h : s.takesFrame p = true) : s.power.main = true := (takesFrame_iff.1 h).1

/-- A length byte outside 2..64 is not good (R149). -/
theorem lengthByteGood_eq_false {len : Byte} (h : len.toNat < 2 ∨ 64 < len.toNat) : lengthByteGood len = false := by
  simp only [lengthByteGood, Bool.and_eq_false_iff, decide_eq_false_iff_not]
  omega

/-- Code 00h and the codes above 1Eh name no request (R174). -/
theorem codeInUse_eq_false {code : Byte} (h : code = 0#8 ∨ 0x1E < code.toNat) : codeInUse code = false := by
  simp only [codeInUse, Bool.and_eq_false_iff, decide_eq_false_iff_not]
  obtain rfl | h := h
  · exact .inl (by decide)
  · exact .inr (by omega)

theorem exec_portStartByte (hm : s.power.main = true) :
    exec (.portStartByte p) s = .next (if (s.port p).rx = .hunt then s.setRx p (.frame 0) else s) := if_pos hm

theorem exec_portFrameWindowExpiry (hm : s.power.main = true) :
    exec (.portFrameWindowExpiry p) s = .next (if (s.port p).rx.windowOver then s.setRx p .hunt else s) := if_pos hm

theorem exec_responseSent (hm : s.power.main = true) :
    exec (.responseSent p) s = .next (if (s.port p).rx.responding then s.setRx p .hunt else s) := if_pos hm

theorem exec_portFrameBadLength {len : Byte} (ht : s.takesFrame p = true) (hl : lengthByteGood len = false) :
    exec (.portFrameBadLength p len) s = .next (s.setRx p .hunt) := by
  change execPortFrameBadLength p len s = _
  simp [execPortFrameBadLength, ht, hl]

theorem exec_requestFrameCrcFail (ht : s.takesFrame p = true) :
    exec (.requestFrameCrcFail p) s = .next (s.setRx p .hunt) := by
  change execRequestFrameCrcFail p s = _
  simp [execRequestFrameCrcFail, ht]

theorem exec_unknownRequest {code tag : Byte} (ht : s.takesFrame p = true) (hc : codeInUse code = false) :
    exec (.unknownRequest p code tag) s = .next (s.respond p code tag ⟨.unknown, []⟩) := by
  change execUnknownRequest p code tag s = _
  simp [execUnknownRequest, ht, requestOfCode_unused hc]

end

/-- Settles O6: each event by its own equation, with the window's end on both sides. -/
theorem portFrameEvents : Obligations.PortFrameEvents := by
  intro p s hm
  refine ⟨fun hrx => ?_, fun hrx => ?_, fun e hrx he => ?_, fun e hrx he => ?_, fun r hrx => ?_⟩
  · rw [exec_portStartByte hm, if_pos hrx]; rfl
  · rw [exec_portStartByte hm, if_neg hrx]
  · have ht : s.takesFrame p = true := takesFrame_iff.2 ⟨hm, e, hrx, he⟩
    have hopen : (s.port p).rx.windowOver = false := by simpa [hrx, PortRx.windowOver] using he
    refine ⟨fun len hl => exec_portFrameBadLength ht (lengthByteGood_eq_false hl), exec_requestFrameCrcFail ht,
      fun code tag hc => exec_unknownRequest ht (codeInUse_eq_false hc), ?_⟩
    rw [exec_portFrameWindowExpiry hm, hopen]
    rfl
  · have hover : (s.port p).rx.windowOver = true := by simpa [hrx, PortRx.windowOver] using he
    rw [exec_portFrameWindowExpiry hm, if_pos hover]; rfl
  · rw [exec_responseSent hm, hrx]; rfl

/-! ### The cursor -/

section
variable {s : State} {p : Port} {rest : List Byte} {tb ix ad : Byte} {table : Table} {advance : Bool}

/-- R154: a table, an advance and an index that the table has are taken. -/
theorem setCursorOwner_taken (ht : tableOfCode tb.toNat = some table) (ha : boolOfCode ad.toNat = some advance)
    (hi : ix.toNat < table.indexCount) :
    setCursorOwner p (tb :: ix :: ad :: rest) s =
      took (s.setPort p { s.port p with cursor := ⟨table, ix.toNat, advance, true⟩ }) [tb, ix, ad] := by
  simp only [setCursorOwner, ht, ha, if_pos hi]

/-- R154: a code that names no table or no advance, and an index the table has not, are refused. -/
theorem setCursorOwner_outOfRange (h : tableOfCode tb.toNat = none ∨ boolOfCode ad.toNat = none ∨
      ∃ table, tableOfCode tb.toNat = some table ∧ table.indexCount ≤ ix.toNat) :
    setCursorOwner p (tb :: ix :: ad :: rest) s = refuse .outOfRange s := by
  unfold setCursorOwner
  dsimp only
  split
  · rename_i table advance ht ha
    have hi : table.indexCount ≤ ix.toNat := by
      obtain h | h | ⟨table', h, hi⟩ := h
      · cases ht.symm.trans h
      · cases ha.symm.trans h
      · obtain rfl := Option.some.inj (ht.symm.trans h)
        exact hi
    exact if_neg (Nat.not_lt.2 hi)
  · rfl

/-- The index a READ reads at, in the words of R155. -/
theorem readIndex_eq (cur : Cursor) (count : Nat) : cur.readIndex count =
    (let k := cur.index + if cur.advance = true ∧ cur.readMark = false then 1 else 0
      if k < count then k else 0) := by
  cases ha : cur.advance <;> cases hr : cur.readMark <;> simp [Cursor.readIndex, ha, hr]

/-- R155: an empty ring answers NONE. -/
theorem readOwner_none (h : s.tableCount (s.port p).cursor.table = 0) :
    readOwner p s = some (s, ⟨.none, u8 (s.port p).cursor.table.code ++ u8 (s.port p).cursor.index⟩) := if_pos h

theorem readOwner_taken {i : Nat} (h : s.tableCount (s.port p).cursor.table ≠ 0)
    (hi : i = (s.port p).cursor.readIndex (s.tableCount (s.port p).cursor.table)) :
    readOwner p s = took (s.setPort p { s.port p with cursor := { (s.port p).cursor with index := i, readMark := false } })
      (u8 (s.port p).cursor.table.code ++ u8 i ++ s.tableRecord (s.port p).cursor.table i) := by
  subst hi
  exact if_neg h

end

/-- Settles O8: each answer of the cursor's owner, passed through the port. -/
theorem cursorRequests : Obligations.CursorRequests := by
  intro p tag rest s ht
  refine ⟨fun tb ix ad table advance htb had hix => ?_, fun tb ix ad h => ?_, fun h => ?_, fun i h hi => ?_⟩
  · exact request_taken ht rfl (setCursorOwner_taken htb had hix)
  · exact request_refused ht rfl (setCursorOwner_outOfRange h)
  · exact request_taken ht rfl (readOwner_none h)
  · exact request_taken ht rfl (readOwner_taken h (hi.trans (readIndex_eq _ _).symm))

/-! ### Notices -/

/-- The table of R159: each notice with its bit and the ports it is raised to. -/
theorem notice_table (n : Notice) (bit : NoticeSet) (ports : List Port)
    (h : (n, bit, ports) ∈
      [(Notice.step, 0b000000000001#12, [Port.kiln, .yard]), (.done, 0b000000000010#12, [.kiln, .yard]),
       (.door, 0b000000000100#12, [.kiln]), (.probe, 0b000000001000#12, [.kiln]), (.ring, 0b000000010000#12, [.kiln]),
       (.held, 0b000000100000#12, [.kiln, .yard]), (.draw, 0b000001000000#12, [.line, .yard]),
       (.label, 0b000010000000#12, [.yard]), (.idle, 0b000100000000#12, [.line]), (.block, 0b001000000000#12, [.line, .yard]),
       (.seq, 0b010000000000#12, [.line]), (.clock, 0b100000000000#12, [.yard])]) :
    n.bit = bit ∧ ∀ q, n.raisedTo q = true ↔ q ∈ ports := by
  simp only [List.mem_cons, Prod.mk.injEq, List.not_mem_nil, or_false] at h
  obtain h | h | h | h | h | h | h | h | h | h | h | h := h
  all_goals
    obtain ⟨rfl, rfl, rfl⟩ := h
    refine ⟨by decide, fun q => ?_⟩
    cases q <;> decide

theorem raise_eq (s : State) (n : Notice) : s.raise n =
    { s with ports := ⟨(s.raise n).port .kiln, (s.raise n).port .line, (s.raise n).port .yard⟩ } := rfl

/-- ATTN with main power on, once a change leaves this record at the port (R161). -/
theorem attnPin_respond {s : State} {p : Port} {x : PortState} {code tag : Byte} {a : Answer} (hm : s.power.main = true) :
    ((s.setPort p x).respond p code tag a).attnPin p = (x.pending &&& x.mask != 0#12) := by
  rw [attnPin_eq, State.respond, State.setRx, State.port_setPort_same, State.port_setPort_same]
  change (s.power.main && _) = _
  rw [hm]
  rfl

/-- R160: a mask of the twelve names is taken. -/
theorem setNoticeMaskOwner_taken {s : State} {p : Port} {hi lo : Byte} {rest : List Byte} (h : nat16 hi lo < 4096) :
    setNoticeMaskOwner p (hi :: lo :: rest) s =
      took (s.setPort p { s.port p with mask := BitVec.ofNat 12 (nat16 hi lo) }) (u16 (nat16 hi lo)) :=
  if_neg (Nat.not_le.2 h)

/-- R160: a mask with a bit above the twelfth is refused. -/
theorem setNoticeMaskOwner_outOfRange {s : State} {p : Port} {hi lo : Byte} {rest : List Byte} (h : 4096 ≤ nat16 hi lo) :
    setNoticeMaskOwner p (hi :: lo :: rest) s = refuse .outOfRange s := if_pos h

/-- Settles O9: the table of R159 notice by notice, and each request's owner passed through the port. -/
theorem noticeAndStatusRequests : Obligations.NoticeAndStatusRequests := by
  refine ⟨fun s n bit ports put hmem hput => ?_, by decide, fun p tag rest s ht => ⟨?_, fun hi lo h => ?_, fun hi lo h => ?_, ?_⟩⟩
  · obtain ⟨rfl, hports⟩ := notice_table n bit ports hmem
    have hport : ∀ q, (s.raise n).port q = put q := fun q => by
      rw [port_raise, hput]
      simp only [hports]
    rw [raise_eq, hport, hport, hport]
  · refine ⟨_, request_taken (owner := readNoticesOwner p) ht rfl rfl, rfl, ?_⟩
    rw [attnPin_respond (takesFrame_powered ht)]
    simp
  · refine ⟨_, request_taken ht rfl (setNoticeMaskOwner_taken h), rfl, ?_⟩
    rw [attnPin_respond (takesFrame_powered ht)]
    exact bne_iff_ne
  · exact request_refused ht rfl (setNoticeMaskOwner_outOfRange h)
  · exact request_taken (owner := fun s => took s (s.statusResults p)) ht rfl rfl

end Sys2Proof.Machine
end

-- ==== Proofs: the mill clock, the resets and the cleared start ====
section
/-! Chapter 10: SET-TIME and the wrap of mill time (R164, R165), what stands after the two resets and after a cleared start (R170
to R172), and that every invariant holds in the machine right after reset. -/

namespace Sys2Proof.Machine

/-! ### The mill clock -/

theorem nat32_eq (b3 b2 b1 b0 : Byte) :
    nat32 b3 b2 b1 b0 = b3.toNat * 16777216 + b2.toNat * 65536 + b1.toNat * 256 + b0.toNat := by
  simp only [nat32, nat16]
  omega

/-- Four bytes come back from the number they carry (R174). -/
theorem u32_nat32 (b3 b2 b1 b0 : Byte) : u32 (nat32 b3 b2 b1 b0) = [b3, b2, b1, b0] := by
  have h3 := b3.isLt
  have h2 := b2.isLt
  have h1 := b1.isLt
  have h0 := b0.isLt
  have hbyte : ∀ (b : Byte) (n : Nat), n % 256 = b.toNat → BitVec.ofNat 8 n = b := fun b n h => BitVec.eq_of_toNat_eq h
  rw [nat32_eq, u32, hbyte b3 _ (by omega), hbyte b2 _ (by omega), hbyte b1 _ (by omega), hbyte b0 _ (by omega)]

theorem setTimeOwner_taken (b3 b2 b1 b0 : Byte) (rest : List Byte) (s : State) :
    setTimeOwner (b3 :: b2 :: b1 :: b0 :: rest) s =
      took { s with clock := ⟨b3.toNat * 16777216 + b2.toNat * 65536 + b1.toNat * 256 + b0.toNat, 0, false⟩ }
        (u32 s.clock.seconds ++ u8 s.clock.sixtyFourths ++ [b3, b2, b1, b0, 0#8]) := by
  have hafter : Stamp.field ⟨nat32 b3 b2 b1 b0, 0⟩ = [b3, b2, b1, b0, 0#8] := by
    rw [Stamp.field, u32_nat32]
    rfl
  rw [← nat32_eq, ← hafter]
  rfl

/-- Settles O46: the owner of SET-TIME passed through the port, and the wrap by its two tests. -/
theorem clockSetAndWrapped : Obligations.ClockSetAndWrapped := by
  intro s
  refine ⟨fun tag b3 b2 b1 b0 rest ht => request_taken ht rfl (setTimeOwner_taken b3 b2 b1 b0 rest s), fun h => ?_,
    fun hs hf => ?_⟩
  · have hend : ¬s.clock.atEnd = true := fun h => by
      have := atEnd_iff.1 h
      omega
    exact congrArg Host.Outcome.next (if_neg hend)
  · have hend : s.clock.atEnd = true := atEnd_iff.2 ⟨hs.ge, hf.ge⟩
    exact ⟨fun hl => congrArg Host.Outcome.next ((if_pos hend).trans (if_pos hl)),
      fun hl => congrArg Host.Outcome.next ((if_pos hend).trans (if_neg (by simp [hl])))⟩

/-! ### Resets -/

theorem exec_portReset {s : State} (h : s.power.main = true) : exec .portReset s = .next s.portReset := if_pos h

theorem exec_clearReset {s : State} (h : s.power.main = true) : exec .clearReset s = .next s.clearReset := if_pos h

/-- Settles O50: what each reset makes of the state, record by record as the model lists them. -/
theorem resets : Obligations.Resets := by
  rintro s home hm rfl
  exact ⟨exec_portReset hm, exec_clearReset hm⟩

/-! ### The two rows of the return of main power -/

section
variable {s : State} {d0 d1 d2 d3 : DoorLevel}

/-- R169, R170: the two rows have one meaning; the hold marker decides. -/
theorem exec_powerReturn_eq : exec (.powerReturn d0 d1 d2 d3) s = exec (.clearedStart d0 d1 d2 d3) s := rfl

theorem exec_clearedStart_powered (hm : s.power.main = true) : exec (.clearedStart d0 d1 d2 d3) s = .next s :=
  congrArg Host.Outcome.next (if_pos hm)

theorem exec_clearedStart_held (hm : s.power.main = false) (hh : s.power.holdMarker = true) :
    exec (.clearedStart d0 d1 d2 d3) s = .next (s.powerReturn d0 d1 d2 d3) :=
  congrArg Host.Outcome.next ((if_neg (by simp [hm])).trans (if_pos hh))

theorem exec_clearedStart_clear (hm : s.power.main = false) (hh : s.power.holdMarker = false) :
    exec (.clearedStart d0 d1 d2 d3) s = .next (State.cleared d0 d1 d2 d3 s.power.vbatInRange s.baud s.pending) :=
  congrArg Host.Outcome.next ((if_neg (by simp [hm])).trans (if_neg (by simp [hh])))

end

/-! ### The records after a cleared start -/

section
variable {d0 d1 d2 d3 : DoorLevel} {vbat : Bool} {baud : Baud} {queue : List Instr}

theorem chamber_cleared (c : ChamberNo) :
    (State.cleared d0 d1 d2 d3 vbat baud queue).chamber c = Chamber.cleared Settings.default := by
  simp [State.chamber, State.cleared]

theorem bank_cleared (c : ChamberNo) : (State.cleared d0 d1 d2 d3 vbat baud queue).bank c = ProbeBank.cleared := by
  simp [State.bank, State.cleared]

/-- R94: each door stands as its input was sampled. -/
theorem monitor_cleared (c : ChamberNo) :
    (State.cleared d0 d1 d2 d3 vbat baud queue).monitor c = DoorMonitor.cleared ([d0, d1, d2, d3].getD c.val .closed) := by
  fin_cases c <;> rfl

theorem eventRing_cleared (c : ChamberNo) : (State.cleared d0 d1 d2 d3 vbat baud queue).eventRing c = ⟨[], 0, false⟩ := by
  simp [State.eventRing, State.cleared]

theorem charge_cleared (k : Fin 8) : (State.cleared d0 d1 d2 d3 vbat baud queue).charge k = none := by
  simp [State.charge, State.cleared]

theorem pack_cleared (k : Fin 16) : (State.cleared d0 d1 d2 d3 vbat baud queue).pack k = none := by
  simp [State.pack, State.cleared]

/-- R163, R170: every port is home with all twelve names in its mask, and CLOCK is pending at the Yard port. -/
theorem port_cleared (p : Port) : (State.cleared d0 d1 d2 d3 vbat baud queue).port p =
    ⟨.hunt, ⟨.chambers, 0, false, true⟩, if p = .yard then 0b100000000000#12 else 0#12, 0xFFF#12⟩ := by
  cases p <;> rfl

theorem attnPin_cleared (p : Port) : (State.cleared d0 d1 d2 d3 vbat baud queue).attnPin p = decide (p = .yard) := by
  rw [attnPin_eq, port_cleared]
  change PortState.attn _ = _
  cases p <;> rfl

theorem schedule_cleared (n : Fin 16) : (State.cleared d0 d1 d2 d3 vbat baud queue).schedules[n] = none := by
  simp [State.cleared]

theorem species_cleared (i : Fin 8) : (State.cleared d0 d1 d2 d3 vbat baud queue).species[i] = none := by
  simp [State.cleared]

end

theorem samples_clearedBank (i : Fin 16) : ProbeBank.cleared.samples[i] = SampleSlot.cleared true := by
  simp [ProbeBank.cleared]

theorem steps_zeroStaging (n : Fin 12) : Staging.zero.steps[n] = StagingStep.zero := by
  simp [Staging.zero]

/-- Settles O49: the hold marker clear, both rows make the cleared state, whose records are read one by one. -/
theorem clearedStarts : Obligations.ClearedStarts := by
  intro d0 d1 d2 d3 s
  refine ⟨fun hm => ⟨exec_clearedStart_powered hm, exec_powerReturn_eq.trans (exec_clearedStart_powered hm)⟩, fun hm hh =>
    ⟨_, exec_clearedStart_clear hm hh, exec_powerReturn_eq.trans (exec_clearedStart_clear hm hh), rfl, rfl, rfl, rfl, rfl, rfl,
      rfl, rfl, rfl, port_cleared, ⟨attnPin_cleared .yard, attnPin_cleared .kiln, attnPin_cleared .line⟩, chamber_cleared,
      ?samples, ?banks, monitor_cleared, eventRing_cleared, schedule_cleared, species_cleared, rfl, steps_zeroStaging,
      charge_cleared, pack_cleared, rfl, rfl, rfl, rfl, rfl, ?heat, rfl, rfl, rfl, rfl⟩⟩
  case samples => intro c i; rw [bank_cleared]; exact samples_clearedBank i
  case banks => intro c; rw [bank_cleared]; exact ⟨rfl, rfl⟩
  case heat =>
    intro c
    exact congrArg (fun x : Chamber => x.state.heat) (chamber_cleared c)

/-! ### Emptied tables -/

section
variable {s t : State}

/-- R8, R61, R117: with no charge, every chamber EMPTY and no draw, there is no link. -/
theorem State.Emptied.linked (h : s.Emptied t) : t.Linked := by
  refine ⟨fun c => (h.chambers c).2, fun c k hk => ?_, fun k ch hch => ?_, fun d hd => ?_, fun k ch hch => ?_, fun b hb => ?_⟩
  · obtain ⟨hempty, hslot, -⟩ := h.chambers c
    exact absurd hempty (hslot.1 (Option.isSome_of_mem hk))
  · simp [h.charges k] at hch
  · simp [h.draw] at hd
  · simp [h.charges k] at hch
  · simp [h.fifo] at hb

/-- R78, R126, R139: what a sound state asks of charges, packs and chambers in a run, it asks of none. -/
theorem State.Emptied.sound (h : s.Emptied t) (hrecords : t.RecordsValid) (hpending : t.PendingWellFormed) : t.Sound where
  linked := h.linked
  recordsValid := hrecords
  recordsHeld k ch hch := by simp [h.charges k] at hch
  onAStep c hcounts := by simp [(h.chambers c).1, ChamberState.counts] at hcounts
  historyPresent :=
    ⟨fun k ch hch => by simp [h.charges k] at hch, fun c hcooling => by simp [(h.chambers c).1] at hcooling⟩
  packsHeld := ⟨fun i j p hp => by simp [h.packs i] at hp, fun i p hp => by simp [h.packs i] at hp⟩
  pendingWellFormed := hpending

/-- R143: with no pack the label queue is empty. -/
theorem State.Emptied.labelsQueued (h : s.Emptied t) (hqueue : t.labelQueue = []) : t.LabelsQueued := by
  simp [State.LabelsQueued, State.packIn, hqueue, h.packs]

end

/-- The machine right after reset holds no record of the working tables. -/
theorem emptied_reset : State.reset.Emptied State.reset := emptied_cleared State.reset ..

theorem recordsValid_reset : State.reset.RecordsValid :=
  ⟨fun n _ h => absurd ((schedule_cleared n).symm.trans h) nofun, fun i _ h => absurd ((species_cleared i).symm.trans h) nofun⟩

theorem sound_reset : State.reset.Sound := emptied_reset.sound recordsValid_reset (List.forall_mem_nil _)

theorem storesFit_reset : State.reset.StoresFit :=
  ⟨by decide, fun c => by rw [State.reset, eventRing_cleared]; decide, fun c => by rw [State.reset, chamber_cleared]; decide⟩

theorem ringsInOrder_reset : State.reset.RingsInOrder := fun c => by
  rw [State.reset, eventRing_cleared]
  decide

/-- Settles O51: with no charge, no pack and no FIFO record, what the invariants ask of those holds of none; the rest is asked of
the cleared values, and a sound state does not stop. -/
theorem resetIsSound : Obligations.ResetIsSound := by
  have hcharges := emptied_reset.charges
  have hpacks := emptied_reset.packs
  obtain ⟨hnotices, hpower⟩ := cleared_kept .closed .closed .closed .closed true .b19200 []
  obtain ⟨t, ht, -⟩ := soundNeverStops State.reset sound_reset
  have hsetpoints : State.reset.SetpointsInRange := inRange_of_cleared .closed .closed .closed .closed true .b19200 []
  have hmoisture : State.reset.MoistureInRange := moistureInRange_cleared .closed .closed .closed .closed true .b19200 []
  refine ⟨sound_reset, hnotices, hpower, storesFit_reset, ringsInOrder_reset, blockKept_of_nil rfl, hsetpoints, hmoisture,
    ?agree, ?below, ⟨by decide, List.forall_mem_nil _, ?packs⟩, emptied_reset.labelsQueued rfl,
    ⟨by decide, ?ids, ?idsDistinct⟩, ⟨by decide, ?numbers, ?numbersDistinct⟩, t, ht⟩
  case agree | below | ids => intro k ch hch; simp [hcharges k] at hch
  case idsDistinct => intro j k a ha; simp [hcharges j] at ha
  case packs | numbers => intro i p hp; simp [hpacks i] at hp
  case numbersDistinct => intro j k a ha; simp [hpacks j] at ha

end Sys2Proof.Machine
end

-- ==== Proofs: the return of main power with the hold marker set ====
section
/-! Chapter 10, R169: the return of main power brings the chambers back one after another. What becomes of the records of one
chamber is said once, as functions of those records; the other chambers' are left, so the four returns are read chamber by
chamber. -/

namespace Sys2Proof.Machine

/-! ### The records of one chamber at return -/

/-- A chamber record once its door is sampled at return (R94). -/
def Chamber.doorAtReturn (level : DoorLevel) (x : Chamber) : Chamber :=
  match x.state, level with
  | .running, .closed | .held, .closed => { x with state := .held }
  | .running, .opened | .held, .opened => { x with state := .doorHold, returnState := some .held }
  | .doorHold, .opened => { x with returnState := some .held }
  | .doorHold, .closed => { x with state := .held, returnState := none }
  | .empty, _ | .loaded, _ | .cooling, _ | .complete, _ => x

/-- The door hold a return leaves, for a chamber in this state at loss (R94). -/
def DoorMonitor.holdAtReturn (atLoss : ChamberState) (level : DoorLevel) (d : DoorMonitor) : Option DoorHold :=
  match atLoss, level with
  | .running, .opened | .held, .opened => some ⟨0, false⟩
  | .doorHold, .closed => none
  | _, _ => d.hold

/-- What a return counts of the door in the bound charge (R94). -/
def Charge.doorAtReturn (x : Chamber) (d : DoorMonitor) (level : DoorLevel) : Charge → Charge :=
  match x.state, level with
  | .running, .opened | .held, .opened => fun ch => { ch with doorOpenings := satAdd Config.maxShort ch.doorOpenings 1 }
  | .doorHold, .closed => fun ch =>
    let openTime := (d.hold.map (·.openTime)).getD 0
    let counted := { ch with doorSeconds := satAdd Config.maxCount ch.doorSeconds (openTime / 64) }
    if x.settings.limitTicks < openTime then counted.mark .doorLong else counted
  | _, _ => fun ch => ch

/-- A chamber record after a return (R63, R87, R94). -/
def Chamber.returned (level : DoorLevel) (x : Chamber) : Chamber := (x.doorAtReturn level).atReturn

/-- A door monitor after a return (R94). -/
def DoorMonitor.returned (atLoss : ChamberState) (level : DoorLevel) (d : DoorMonitor) : DoorMonitor :=
  ⟨level, level, none, d.holdAtReturn atLoss level⟩

/-- The bound charge after a return (R87, R94). -/
def Charge.returned (x : Chamber) (d : DoorMonitor) (level : DoorLevel) : Charge → Charge :=
  if x.state.inRun then fun ch => (ch.doorAtReturn x d level).mark .powerHold else fun ch => ch

/-- The chamber, its door monitor and its charge brought back, before anything is raised or recorded (R87, R94). -/
def State.broughtBack (c : ChamberNo) (level : DoorLevel) (s : State) : State :=
  ((s.modBound c (Charge.returned (s.chamber c) (s.monitor c) level)).setChamber c ((s.chamber c).returned level)).setMonitor c
    ((s.monitor c).returned (s.chamber c).state level)

/-! ### Records replaced by themselves, and in either order -/

section
variable {s : State} {c : ChamberNo}

theorem setChamber_self (s : State) (c : ChamberNo) : s.setChamber c (s.chamber c) = s := by
  simp [State.setChamber, State.chamber]

theorem setMonitor_self (s : State) (c : ChamberNo) : s.setMonitor c (s.monitor c) = s := by
  simp [State.setMonitor, State.monitor]

theorem modBound_self (s : State) (c : ChamberNo) : (s.modBound c fun ch => ch) = s := by
  unfold State.modBound
  cases (s.chamber c).chargeSlot <;> simp [State.charge]

theorem modBound_modBound (s : State) (c : ChamberNo) (f g : Charge → Charge) :
    (s.modBound c f).modBound c g = s.modBound c fun ch => g (f ch) := by
  cases h : (s.chamber c).chargeSlot with
  | none => rw [modBound_none g (by simpa using h), modBound_none f h, modBound_none _ h]
  | some k =>
    rw [modBound_some g (by simpa using h), modBound_some f h, modBound_some _ h]
    simp [State.modCharge, State.setCharge, State.charge, Function.comp_def]

/-- A change of the bound charge and a new chamber record with the same charge slot, in either order. -/
theorem modBound_setChamber {x : Chamber} (f : Charge → Charge) (h : x.chargeSlot = (s.chamber c).chargeSlot) :
    (s.setChamber c x).modBound c f = (s.modBound c f).setChamber c x := by
  simp [State.modBound, State.setChamber, State.chamber, State.charge, h]

end

/-! ### One chamber brought back -/

section
variable {s : State} {c : ChamberNo} {level : DoorLevel}

/-- R94: the door hold of a run found with its door open. -/
theorem holdAtReturn_eq (s : State) (c : ChamberNo) : s.holdAtReturn c =
    ((s.modBound c fun ch => { ch with doorOpenings := satAdd Config.maxShort ch.doorOpenings 1 }).setChamber c
      { s.chamber c with state := .doorHold, returnState := some .held }).setMonitor c
        { s.monitor c with hold := some ⟨0, false⟩ } :=
  congrArg (State.setMonitor c _) (modBound_setChamber _ rfl)

/-- R94: a door hold whose door is found closed, and the open time it counts. -/
theorem endHoldAtReturn_eq (s : State) (c : ChamberNo) : s.endHoldAtReturn c =
    ((s.modBound c fun ch =>
        let openTime := ((s.monitor c).hold.map (·.openTime)).getD 0
        let counted := { ch with doorSeconds := satAdd Config.maxCount ch.doorSeconds (openTime / 64) }
        if (s.chamber c).settings.limitTicks < openTime then counted.mark .doorLong else counted).setChamber c
      { s.chamber c with state := .held, returnState := none }).setMonitor c { s.monitor c with hold := none } := by
  unfold State.endHoldAtReturn
  cases (s.monitor c).hold <;> rfl

/-- R94: what the sampled door makes of the chamber, its door hold and its charge. -/
theorem doorAtReturn_eq (s : State) (c : ChamberNo) : s.doorAtReturn c =
    ((s.modBound c (Charge.doorAtReturn (s.chamber c) (s.monitor c) (s.monitor c).door)).setChamber c
      ((s.chamber c).doorAtReturn (s.monitor c).door)).setMonitor c
        { s.monitor c with hold := (s.monitor c).holdAtReturn (s.chamber c).state (s.monitor c).door } := by
  unfold State.doorAtReturn
  split
  case h_1 h hd | h_2 h hd =>
    simp only [Charge.doorAtReturn, Chamber.doorAtReturn, DoorMonitor.holdAtReturn, h, hd, modBound_self]
    rw [← hd]
    exact (setMonitor_self _ c).symm
  case h_3 h hd | h_4 h hd =>
    simp only [Charge.doorAtReturn, Chamber.doorAtReturn, DoorMonitor.holdAtReturn, h, hd, holdAtReturn_eq]
  case h_5 h hd =>
    simp only [Charge.doorAtReturn, Chamber.doorAtReturn, DoorMonitor.holdAtReturn, h, hd, modBound_self]
    rw [← hd, ← h]
    exact (setMonitor_self _ c).symm
  case h_6 h hd =>
    simp only [Charge.doorAtReturn, Chamber.doorAtReturn, DoorMonitor.holdAtReturn, h, hd, endHoldAtReturn_eq]
  case h_7 h | h_8 h | h_9 h | h_10 h =>
    simp only [Charge.doorAtReturn, Chamber.doorAtReturn, DoorMonitor.holdAtReturn, h, modBound_self, setChamber_self]
    exact (setMonitor_self _ c).symm

/-- R94: the door reaches the state and the return state of a chamber record. -/
theorem chamberDoorAtReturn_eq (x : Chamber) (level : DoorLevel) : x.doorAtReturn level =
    { x with state := (x.doorAtReturn level).state, returnState := (x.doorAtReturn level).returnState } := by
  unfold Chamber.doorAtReturn
  split <;> rfl

/-- R63, R70, R87: no command waits after a return, and the countdown is loaded in full in the states in which it runs. -/
theorem atReturn_eq (x : Chamber) : x.atReturn = { x with
    queue := []
    countdown := if x.state.counts then some ⟨x.settings.interval, 0, x.settings.interval⟩ else x.countdown } := by
  unfold Chamber.atReturn
  split <;> rfl

/-- R63, R87, R94: a return reaches the state, the return state, the queue and the countdown of a chamber record. -/
theorem returned_eq (x : Chamber) (level : DoorLevel) : x.returned level = { x with
    state := (x.doorAtReturn level).state
    returnState := (x.doorAtReturn level).returnState
    queue := []
    countdown := if (x.doorAtReturn level).state.counts then some ⟨x.settings.interval, 0, x.settings.interval⟩
      else x.countdown } := by
  rw [Chamber.returned, atReturn_eq, chamberDoorAtReturn_eq]

theorem returned_chargeSlot (x : Chamber) (level : DoorLevel) : (x.returned level).chargeSlot = x.chargeSlot := by
  rw [returned_eq]

/-- R87, R94: the door sampled, and the countdown and queue set anew. -/
theorem doorAtReturn_modChamber (s : State) (c : ChamberNo) (level : DoorLevel) :
    ((s.setMonitor c { s.monitor c with input := level, door := level, debounce := none }).doorAtReturn c).modChamber c
        Chamber.atReturn =
      ((s.modBound c (Charge.doorAtReturn (s.chamber c) (s.monitor c) level)).setChamber c
        ((s.chamber c).returned level)).setMonitor c ((s.monitor c).returned (s.chamber c).state level) := by
  have hmerge : ∀ (f : Charge → Charge) (x : Chamber) (d e : DoorMonitor),
      ((((s.setMonitor c d).modBound c f).setChamber c x).setMonitor c e).modChamber c Chamber.atReturn =
        ((s.modBound c f).setChamber c x.atReturn).setMonitor c e := fun f x d e => by
    simp [State.setMonitor, State.modChamber, State.setChamber, State.chamber, State.modBound, State.charge]
  rw [doorAtReturn_eq, State.monitor_setMonitor_same]
  exact hmerge _ _ _ _

/-- Outside a run a return counts nothing of the door (R94). -/
theorem chargeDoorAtReturn_still {x : Chamber} (h : x.state.inRun = false) (d : DoorMonitor) (level : DoorLevel) :
    Charge.doorAtReturn x d level = fun ch => ch := by
  cases hx : x.state <;> simp [hx, ChamberState.inRun] at h <;> simp [Charge.doorAtReturn, hx]

/-- R87, R94: the door sampled and the charge of a run marked POWER_HOLD. -/
theorem broughtBack_eq (s : State) (c : ChamberNo) (level : DoorLevel) :
    let t := ((s.setMonitor c { s.monitor c with input := level, door := level, debounce := none }).doorAtReturn c).modChamber c
      Chamber.atReturn
    s.broughtBack c level = if (s.chamber c).state.inRun then t.modBound c (Charge.mark .powerHold) else t := by
  dsimp only
  rw [doorAtReturn_modChamber]
  unfold State.broughtBack Charge.returned
  split
  · have hmark := (modBound_setChamber (s := s.modBound c (Charge.doorAtReturn (s.chamber c) (s.monitor c) level))
      (Charge.mark .powerHold) (returned_chargeSlot (s.chamber c) level)).trans (congrArg _ (modBound_modBound s c _ _))
    exact congrArg (State.setMonitor c _) hmark.symm
  · rename_i h
    rw [chargeDoorAtReturn_still (by simpa using h)]

/-- The chamber brought back, and HELD raised for a run (R87). -/
def State.toldBack (c : ChamberNo) (level : DoorLevel) (s : State) : State :=
  if (s.chamber c).state.inRun then (s.broughtBack c level).raise .held else s.broughtBack c level

/-- R87, R94, R169: the return of one chamber: its records brought back, HELD raised for a run, and POWER_RETURN offered unless it
is EMPTY. -/
theorem chamberReturn_eq (s : State) (c : ChamberNo) (level : DoorLevel) : s.chamberReturn c level =
    if (s.chamber c).state = .empty then s.toldBack c level
    else (s.toldBack c level).offer c (.powerReturn (s.chamber c).state) := by
  unfold State.chamberReturn State.toldBack
  rw [broughtBack_eq]
  dsimp only
  cases (s.chamber c).state.inRun <;> rfl

/-- A view that the notice raised does not show in sees the records brought back alone. -/
theorem toldBack_view {α : Type} (view : State → α) (hraise : ∀ t, view (State.raise .held t) = view t) :
    view (s.toldBack c level) = view (s.broughtBack c level) := by
  unfold State.toldBack
  split
  · exact hraise _
  · rfl

/-- A view that neither the notice raised nor the event offered shows in sees the records brought back alone. -/
theorem chamberReturn_view {α : Type} (view : State → α) (hraise : ∀ t, view (State.raise .held t) = view t)
    (hoffer : ∀ t ev, view (State.offer c ev t) = view t) : view (s.chamberReturn c level) = view (s.broughtBack c level) := by
  rw [chamberReturn_eq]
  split
  · exact toldBack_view view hraise
  · exact (hoffer _ _).trans (toldBack_view view hraise)

end

/-! ### The records of each chamber -/

/-- What the return of a chamber reads: its record, its door monitor, its ring, its probe records and the mill clock. -/
structure Bay where
  chamber : Chamber
  monitor : DoorMonitor
  ring : EventRing
  bank : ProbeBank
  clock : MillClock

/-- What the return of chamber `c` reads. -/
def State.bay (s : State) (c : ChamberNo) : Bay := ⟨s.chamber c, s.monitor c, s.eventRing c, s.bank c, s.clock⟩

theorem bay_chamber (s : State) (c : ChamberNo) : (s.bay c).chamber = s.chamber c := rfl
theorem bay_monitor (s : State) (c : ChamberNo) : (s.bay c).monitor = s.monitor c := rfl
theorem bay_ring (s : State) (c : ChamberNo) : (s.bay c).ring = s.eventRing c := rfl

/-- The entry a return makes when it is recorded (R95). -/
def Bay.returnEntry (b : Bay) (level : DoorLevel) (seq : Nat) : RingEntry :=
  ⟨seq, ⟨b.clock.seconds, b.clock.sixtyFourths⟩, b.clock.lost, .powerReturn b.chamber.state, (b.chamber.returned level).state,
    b.chamber.stepIndex, b.chamber.latest.values.map (·.wettestHalf), b.bank.dryBulb.temperature⟩

/-- The ring after a return: POWER_RETURN is offered to it unless the chamber is EMPTY (R87). -/
def Bay.ringReturned (level : DoorLevel) (b : Bay) : EventRing :=
  if b.chamber.state = .empty then b.ring
  else b.ring.after b.chamber.settings (.powerReturn b.chamber.state) (b.returnEntry level)

/-- The records of a chamber after its return. -/
def Bay.returned (level : DoorLevel) (b : Bay) : Bay :=
  ⟨b.chamber.returned level, b.monitor.returned b.chamber.state level, b.ringReturned level, b.bank, b.clock⟩

/-- The return raises RING (R97, R98). -/
def Bay.rings (b : Bay) : Bool :=
  b.chamber.state != .empty && b.ring.raises b.chamber.settings (.powerReturn b.chamber.state)

section
variable {s : State} {c : ChamberNo} {level : DoorLevel}

theorem chamber_chamberReturn (d : ChamberNo) : (s.chamberReturn c level).chamber d =
    if c = d then (s.chamber c).returned level else s.chamber d :=
  (chamberReturn_view (·.chamber d) (fun _ => rfl) fun _ _ => rfl).trans (chamber_setChamber _ c d _)

theorem monitor_chamberReturn (d : ChamberNo) : (s.chamberReturn c level).monitor d =
    if c = d then (s.monitor c).returned (s.chamber c).state level else s.monitor d :=
  (chamberReturn_view (·.monitor d) (fun _ => rfl) fun _ _ => rfl).trans (monitor_setMonitor _ c d _)

theorem bank_chamberReturn (d : ChamberNo) : (s.chamberReturn c level).bank d = s.bank d :=
  chamberReturn_view (·.bank d) (fun _ => rfl) fun _ _ => rfl

theorem clock_chamberReturn : (s.chamberReturn c level).clock = s.clock :=
  chamberReturn_view (·.clock) (fun _ => rfl) fun _ _ => rfl

theorem charge_chamberReturn (k : Fin 8) : (s.chamberReturn c level).charge k = (s.charge k).map fun ch =>
    if (s.bay c).chamber.chargeSlot = some k then ch.returned (s.bay c).chamber (s.bay c).monitor level else ch :=
  (chamberReturn_view (·.charge k) (fun _ => rfl) fun _ _ => rfl).trans (charge_modBound s c k _)

theorem chamber_toldBack : (s.toldBack c level).chamber c = (s.chamber c).returned level :=
  (toldBack_view (·.chamber c) fun _ => rfl).trans (State.chamber_setChamber_same ..)

theorem eventRing_toldBack (d : ChamberNo) : (s.toldBack c level).eventRing d = s.eventRing d :=
  toldBack_view (·.eventRing d) fun _ => rfl

theorem settings_returned (x : Chamber) : (x.returned level).settings = x.settings := by
  rw [returned_eq]

/-- R95: the entry of POWER_RETURN is made of the records brought back. -/
theorem entryOf_toldBack :
    (s.toldBack c level).entryOf c (.powerReturn (s.chamber c).state) = (s.bay c).returnEntry level := by
  have hstamp : (s.toldBack c level).stamp = s.stamp := toldBack_view (·.stamp) fun _ => rfl
  have hclock : (s.toldBack c level).clock = s.clock := toldBack_view (·.clock) fun _ => rfl
  have hbank : (s.toldBack c level).bank c = s.bank c := toldBack_view (·.bank c) fun _ => rfl
  funext seq
  rw [State.entryOf, hstamp, hclock, hbank, chamber_toldBack, Bay.returnEntry, bay_chamber, returned_eq]
  rfl

theorem eventRing_chamberReturn (d : ChamberNo) : (s.chamberReturn c level).eventRing d =
    if c = d then (s.bay c).ringReturned level else s.eventRing d := by
  rw [chamberReturn_eq, Bay.ringReturned, State.bay]
  by_cases hempty : (s.chamber c).state = .empty
  · simp only [if_pos hempty, eventRing_toldBack]
    split
    · rename_i h
      rw [h]
    · rfl
  · simp only [if_neg hempty, eventRing_offer, eventRing_toldBack, chamber_toldBack, settings_returned, entryOf_toldBack]
    rfl

/-- R87: the return of a chamber changes its records and leaves those of the others. -/
theorem bay_chamberReturn (d : ChamberNo) :
    (s.chamberReturn c level).bay d = if c = d then (s.bay c).returned level else s.bay d := by
  rw [State.bay, chamber_chamberReturn, monitor_chamberReturn, eventRing_chamberReturn, bank_chamberReturn, clock_chamberReturn]
  split
  · rename_i h
    subst h
    rfl
  · rfl

/-! ### The notices of a return -/

/-- A notice as port `p` hears it, when it is raised at all (R159). -/
def Notice.heardAt (n : Notice) (p : Port) (raised : Bool) : NoticeSet := if raised && n.raisedTo p then n.bit else 0#12

theorem heardAt_or (n : Notice) (p : Port) (a b : Bool) : n.heardAt p a ||| n.heardAt p b = n.heardAt p (a || b) := by
  cases a <;> cases b <;> simp [Notice.heardAt]

theorem port_raise_eq (s : State) (n : Notice) (p : Port) :
    (s.raise n).port p = { s.port p with pending := (s.port p).pending ||| n.heardAt p true } := by
  rw [port_raise, Notice.heardAt, Bool.true_and]
  split <;> simp

theorem port_toldBack (p : Port) : (s.toldBack c level).port p =
    { s.port p with pending := (s.port p).pending ||| Notice.held.heardAt p (s.chamber c).state.inRun } := by
  unfold State.toldBack
  cases (s.chamber c).state.inRun with
  | true => exact port_raise_eq (s.broughtBack c level) .held p
  | false => simp [Notice.heardAt, State.broughtBack]

/-- R87, R98: the return of a chamber raises HELD for a run, and RING where its ring says so. -/
theorem port_chamberReturn (p : Port) : (s.chamberReturn c level).port p =
    { s.port p with pending := (s.port p).pending |||
        (Notice.held.heardAt p (s.bay c).chamber.state.inRun ||| Notice.ring.heardAt p (s.bay c).rings) } := by
  rw [chamberReturn_eq, ← BitVec.or_assoc]
  by_cases hempty : (s.chamber c).state = .empty
  · have hrings : (s.bay c).rings = false := by simp [Bay.rings, State.bay, hempty]
    rw [if_pos hempty, port_toldBack, hrings]
    simp [Notice.heardAt, State.bay]
  · have hrings : (s.bay c).rings =
        ((s.toldBack c level).eventRing c).raises ((s.toldBack c level).chamber c).settings (.powerReturn (s.chamber c).state) := by
      rw [eventRing_toldBack, chamber_toldBack, settings_returned]
      simp [Bay.rings, State.bay, hempty]
    rw [if_neg hempty, offer_eq, hrings]
    dsimp only
    cases EventRing.raises _ _ _ with
    | true =>
      rw [if_pos rfl, port_raise_eq, State.setRing_port, port_toldBack]
      rfl
    | false =>
      rw [if_neg nofun, State.setRing_port, port_toldBack]
      simp [Notice.heardAt, State.bay]

/-! ### The chambers brought back one after another -/

/-- A return reaches the ports, and the records of chambers, doors, rings and charges. -/
def State.Returns (s t : State) : Prop :=
  ∃ ports chambers doors rings charges,
    t = { s with ports := ports, chambers := chambers, doors := doors, rings := rings, charges := charges }

theorem State.Returns.trans {t u : State} (h : s.Returns t) (g : t.Returns u) : s.Returns u := by
  obtain ⟨_, _, _, _, _, rfl⟩ := h
  obtain ⟨_, _, _, _, _, rfl⟩ := g
  exact ⟨_, _, _, _, _, rfl⟩

theorem returns_toldBack (s : State) (c : ChamberNo) (level : DoorLevel) : s.Returns (s.toldBack c level) := by
  have hback : s.Returns (s.broughtBack c level) := ⟨_, _, _, _, _, rfl⟩
  have hraise : ∀ t : State, t.Returns (t.raise .held) := fun _ => ⟨_, _, _, _, _, rfl⟩
  exact ite_keeps (hback.trans (hraise _)) hback

theorem returns_chamberReturn (s : State) (c : ChamberNo) (level : DoorLevel) : s.Returns (s.chamberReturn c level) := by
  have hoffer : ∀ (t : State) (ev : Event), t.Returns (t.offer c ev) := fun _ _ => ⟨_, _, _, _, _, rfl⟩
  rw [chamberReturn_eq]
  exact ite_keeps (returns_toldBack s c level) ((returns_toldBack s c level).trans (hoffer _ _))

theorem charge_chamberReturn_other {k : Fin 8} (h : (s.bay c).chamber.chargeSlot ≠ some k) :
    (s.chamberReturn c level).charge k = s.charge k := by
  simp [charge_chamberReturn, h]

theorem charge_chamberReturn_own {k : Fin 8} (h : (s.bay c).chamber.chargeSlot = some k) :
    (s.chamberReturn c level).charge k = (s.charge k).map (Charge.returned (s.bay c).chamber (s.bay c).monitor level) := by
  simp [charge_chamberReturn, h]

/-- R8: a return leaves every binding as it is. -/
theorem chargeSlot_bay_chamberReturn (d : ChamberNo) :
    ((s.chamberReturn c level).bay d).chamber.chargeSlot = (s.bay d).chamber.chargeSlot := by
  rw [bay_chamberReturn]
  split
  · rename_i h
    subst h
    exact returned_chargeSlot _ _
  · rfl

theorem bay_chamberReturn_other {d : ChamberNo} (h : c ≠ d) : (s.chamberReturn c level).bay d = s.bay d :=
  (bay_chamberReturn d).trans (if_neg h)

end

/-- The return of the chambers of a list, one after another, each with its own door input. -/
def State.returnAll (level : ChamberNo → DoorLevel) : List ChamberNo → State → State
  | [], s => s
  | c :: cs, s => returnAll level cs (s.chamberReturn c (level c))

section
variable {level : ChamberNo → DoorLevel} {cs : List ChamberNo}

theorem returns_returnAll (level : ChamberNo → DoorLevel) (cs : List ChamberNo) (s : State) :
    s.Returns (s.returnAll level cs) := by
  induction cs generalizing s with
  | nil => exact ⟨_, _, _, _, _, rfl⟩
  | cons c cs ih => exact (returns_chamberReturn s c _).trans (ih _)

/-- R87: each chamber of the list is brought back once, the others are left. -/
theorem bay_returnAll (hn : cs.Nodup) (s : State) (d : ChamberNo) :
    (s.returnAll level cs).bay d = if d ∈ cs then (s.bay d).returned (level d) else s.bay d := by
  induction cs generalizing s with
  | nil => rfl
  | cons c cs ih =>
    obtain ⟨hc, hcs⟩ := List.nodup_cons.1 hn
    rw [State.returnAll, ih hcs, bay_chamberReturn]
    by_cases h : c = d
    · subst h
      simp [hc]
    · simp [h, Ne.symm h]

/-- R159: a port hears of the chambers of the list what it hears of any of them. -/
theorem port_returnAll (hn : cs.Nodup) (s : State) (p : Port) : (s.returnAll level cs).port p =
    { s.port p with pending := (s.port p).pending |||
        (Notice.held.heardAt p (cs.any fun c => (s.bay c).chamber.state.inRun) |||
          Notice.ring.heardAt p (cs.any fun c => (s.bay c).rings)) } := by
  induction cs generalizing s with
  | nil => simp [State.returnAll, Notice.heardAt]
  | cons c cs ih =>
    obtain ⟨hc, hcs⟩ := List.nodup_cons.1 hn
    have hbay : ∀ d ∈ cs, (s.chamberReturn c (level c)).bay d = s.bay d := fun d hd =>
      bay_chamberReturn_other fun h => hc (h ▸ hd)
    have hany : ∀ f : Bay → Bool, (cs.any fun d => f ((s.chamberReturn c (level c)).bay d)) = cs.any fun d => f (s.bay d) :=
      fun f => by
        rw [Bool.eq_iff_iff, List.any_eq_true, List.any_eq_true]
        exact exists_congr fun d => and_congr_right fun hd => by rw [hbay d hd]
    rw [State.returnAll, ih hcs, port_chamberReturn, hany fun b => b.chamber.state.inRun, hany Bay.rings, List.any_cons,
      List.any_cons, ← heardAt_or, ← heardAt_or]
    dsimp only
    congr 1
    ac_rfl

/-- R8: a charge that none of these chambers is bound to is left as it is. -/
theorem charge_returnAll_unbound {k : Fin 8} (s : State) (h : ∀ c ∈ cs, (s.bay c).chamber.chargeSlot ≠ some k) :
    (s.returnAll level cs).charge k = s.charge k := by
  induction cs generalizing s with
  | nil => rfl
  | cons c cs ih =>
    obtain ⟨hslot, hslots⟩ := List.forall_mem_cons.1 h
    refine (ih _ fun d hd => ?_).trans (charge_chamberReturn_other hslot)
    rw [chargeSlot_bay_chamberReturn]
    exact hslots d hd

/-- R8: the charge that one chamber alone is bound to comes back with it. -/
theorem charge_returnAll_bound {k : Fin 8} {c : ChamberNo} (hn : cs.Nodup) (s : State) (hmem : c ∈ cs)
    (hown : (s.bay c).chamber.chargeSlot = some k) (hother : ∀ d, c ≠ d → (s.bay d).chamber.chargeSlot ≠ some k) :
    (s.returnAll level cs).charge k =
      (s.charge k).map (Charge.returned (s.bay c).chamber (s.bay c).monitor (level c)) := by
  induction cs generalizing s with
  | nil => cases hmem
  | cons e cs ih =>
    obtain ⟨he, hcs⟩ := List.nodup_cons.1 hn
    obtain rfl | hne := eq_or_ne e c
    · rw [State.returnAll, charge_returnAll_unbound _ fun d hd => ?_, charge_chamberReturn_own hown]
      rw [chargeSlot_bay_chamberReturn]
      exact hother d fun h => he (h ▸ hd)
    · have hmem' : c ∈ cs := (List.mem_cons.1 hmem).resolve_left hne.symm
      have hbay : (s.chamberReturn e (level e)).bay c = s.bay c := bay_chamberReturn_other hne
      refine (ih hcs _ hmem' (by rwa [hbay]) fun d hd => ?_).trans ?_
      · rw [chargeSlot_bay_chamberReturn]
        exact hother d hd
      · rw [hbay, charge_chamberReturn_other (hother e hne.symm)]

end

/-! ### The whole return -/

/-- The door input of a chamber, as a return samples it. -/
def levelAt (d0 d1 d2 d3 : DoorLevel) (c : ChamberNo) : DoorLevel := [d0, d1, d2, d3].getD c.val .closed

section
variable (s : State) (d0 d1 d2 d3 : DoorLevel)

/-- R169: once the part is ready, the four chambers come back in their order. -/
theorem powerReturn_eq : s.powerReturn d0 d1 d2 d3 = s.readied.returnAll (levelAt d0 d1 d2 d3) allChambers := rfl

theorem returns_powerReturn : s.readied.Returns (s.powerReturn d0 d1 d2 d3) := by
  rw [powerReturn_eq]
  exact returns_returnAll _ _ _

theorem mem_allChambers (c : ChamberNo) : c ∈ allChambers := by
  revert c
  decide

theorem nodup_allChambers : allChambers.Nodup := by decide

theorem any_allChambers {f : ChamberNo → Bool} : allChambers.any f = true ↔ ∃ c, f c = true := by
  simp [mem_allChambers]

theorem bay_powerReturn (c : ChamberNo) :
    (s.powerReturn d0 d1 d2 d3).bay c = (s.bay c).returned (levelAt d0 d1 d2 d3 c) := by
  rw [powerReturn_eq, bay_returnAll nodup_allChambers, if_pos (mem_allChambers c)]
  rfl

theorem chamber_powerReturn (c : ChamberNo) :
    (s.powerReturn d0 d1 d2 d3).chamber c = (s.chamber c).returned (levelAt d0 d1 d2 d3 c) := by
  rw [← bay_chamber, bay_powerReturn]
  rfl

theorem monitor_powerReturn (c : ChamberNo) : (s.powerReturn d0 d1 d2 d3).monitor c =
    (s.monitor c).returned (s.chamber c).state (levelAt d0 d1 d2 d3 c) := by
  rw [← bay_monitor, bay_powerReturn]
  rfl

theorem eventRing_powerReturn (c : ChamberNo) :
    (s.powerReturn d0 d1 d2 d3).eventRing c = (s.bay c).ringReturned (levelAt d0 d1 d2 d3 c) := by
  rw [← bay_ring, bay_powerReturn]
  rfl

/-- R163, R169: every port is home, with HELD pending for a run and RING where a ring says so. -/
theorem port_powerReturn (p : Port) : (s.powerReturn d0 d1 d2 d3).port p = { (s.port p).home with
    pending := Notice.held.heardAt p (allChambers.any fun c => (s.bay c).chamber.state.inRun) |||
      Notice.ring.heardAt p (allChambers.any fun c => (s.bay c).rings) } := by
  rw [powerReturn_eq, port_returnAll nodup_allChambers]
  have hhome : s.readied.port p = (s.port p).home := port_portsHome s p
  have hzero : ∀ names : NoticeSet, 0 ||| names = names := fun _ => BitVec.zero_or
  rw [hhome, PortState.home, hzero]
  rfl

theorem charge_powerReturn_unbound {k : Fin 8} (h : ∀ c, (s.chamber c).chargeSlot ≠ some k) :
    (s.powerReturn d0 d1 d2 d3).charge k = s.charge k := by
  rw [powerReturn_eq, charge_returnAll_unbound s.readied fun c _ => h c]
  rfl

theorem charge_powerReturn_bound {k : Fin 8} {c : ChamberNo} (hown : (s.chamber c).chargeSlot = some k)
    (hother : ∀ d, c ≠ d → (s.chamber d).chargeSlot ≠ some k) : (s.powerReturn d0 d1 d2 d3).charge k =
      (s.charge k).map (Charge.returned (s.chamber c) (s.monitor c) (levelAt d0 d1 d2 d3 c)) := by
  rw [powerReturn_eq, charge_returnAll_bound nodup_allChambers s.readied (mem_allChambers c) hown hother]
  rfl

end

/-! ### The cases of R87 and R94, in the words of the rules -/

section
variable {x : Chamber} {d : DoorMonitor} {level : DoorLevel} {b : Bay}

/-- R87, R94: the state and the door hold a chamber comes back with. -/
theorem returned_cases {state : ChamberState} {hold : Option DoorHold}
    (h : x.state ∈ [.running, .held] ∧ level = .closed ∧ state = .held ∧ hold = d.hold ∨
      x.state ∈ [.running, .held] ∧ level = .opened ∧ state = .doorHold ∧ hold = some ⟨0, false⟩ ∨
      x.state = .doorHold ∧ level = .opened ∧ state = .doorHold ∧ hold = d.hold ∨
      x.state = .doorHold ∧ level = .closed ∧ state = .held ∧ hold = none ∨
      x.state ∈ [.empty, .loaded, .cooling, .complete] ∧ state = x.state ∧ hold = d.hold) :
    (x.returned level).state = state ∧ d.returned x.state level = ⟨level, level, none, hold⟩ := by
  simp only [List.mem_cons, List.not_mem_nil, or_false] at h
  rw [returned_eq, DoorMonitor.returned]
  obtain ⟨hx | hx, rfl, rfl, rfl⟩ | ⟨hx | hx, rfl, rfl, rfl⟩ | ⟨hx, rfl, rfl, rfl⟩ | ⟨hx, rfl, rfl, rfl⟩ |
    ⟨hx | hx | hx | hx, rfl, rfl⟩ := h
  all_goals simp [Chamber.doorAtReturn, DoorMonitor.holdAtReturn, hx]

/-- R61, R63, R87: return state and countdown by the state a chamber comes back in. -/
theorem returned_fields (x : Chamber) (level : DoorLevel) :
    ((x.returned level).state = .doorHold → (x.returned level).returnState = some .held) ∧
    ((x.returned level).state = .held → x.state = .doorHold → (x.returned level).returnState = none) ∧
    (x.returned level).countdown = if (x.returned level).state ∈ [.held, .doorHold, .cooling] then
        some ⟨x.settings.interval, 0, x.settings.interval⟩ else x.countdown := by
  rw [returned_eq]
  cases hx : x.state <;> cases level <;> simp [Chamber.doorAtReturn, ChamberState.counts, hx]

/-- R97: what a return raises RING for. -/
theorem rings_iff : b.rings = true ↔ b.chamber.state ≠ .empty ∧ b.chamber.settings.ringEnables.getLsbD 4 = true ∧
    (if 8 ≤ b.ring.entries.length ∧ b.chamber.settings.ringMode = .stop then b.ring.overflow = false
      else b.chamber.settings.ringPolicy = .each ∨ b.ring.entries.length = 7) := by
  rw [Bay.rings, Bool.and_eq_true, bne_iff_ne]
  refine and_congr_right fun _ => ?_
  change _ ↔ b.chamber.settings.enables (.powerReturn b.chamber.state) = true ∧ _
  cases hen : b.chamber.settings.enables (.powerReturn b.chamber.state) with
  | false => simp [EventRing.raises, verdict_disabled hen]
  | true =>
    by_cases hroom : b.ring.entries.length < 8 ∨ b.chamber.settings.ringMode = .overwrite
    · rw [raises_entry (verdict_entry hen hroom), if_neg ?_]
      · simp
      rintro ⟨hlen, hstop⟩
      obtain h | h := hroom
      · omega
      · simp [hstop] at h
    · obtain ⟨hlen, hmode⟩ := not_or.1 hroom
      have hstop : b.chamber.settings.ringMode = .stop := by
        cases h : b.chamber.settings.ringMode with
        | overwrite => exact absurd h hmode
        | stop => rfl
      have hverdict : b.ring.verdict b.chamber.settings (.powerReturn b.chamber.state) = .full := by
        refine (if_neg (by simp [hen])).trans ((if_neg hlen).trans ?_)
        rw [hstop]
      rw [raises_full hverdict, if_pos ⟨Nat.not_lt.1 hlen, hstop⟩]
      simp

/-- R6, R87, R94: what a return does to the bound charge. -/
theorem chargeReturned_eq (ch : Charge) : ch.returned x d level =
    if x.state ∈ [.running, .held] ∧ level = .opened then
      { ch with marks := ch.marks ||| 0b00010000#8, doorOpenings := min (ch.doorOpenings + 1) 65535 }
    else if x.state ∈ [.running, .held] then { ch with marks := ch.marks ||| 0b00010000#8 }
    else if x.state = .doorHold ∧ level = .opened then { ch with marks := ch.marks ||| 0b00010000#8 }
    else if x.state = .doorHold then { ch with
      marks := if (∃ h, d.hold = some h ∧ x.settings.doorLimit * 3840 < h.openTime) then
          ch.marks ||| 0b00110000#8 else ch.marks ||| 0b00010000#8
      doorSeconds := min (ch.doorSeconds + ((d.hold.map (·.openTime)).getD 0) / 64) 4294967295 }
    else ch := by
  have hhold : Mark.powerHold.bit = 0b00010000#8 := by decide
  have hlong : ∀ marks : MarkSet, Mark.powerHold.join (Mark.doorLong.join marks) = marks ||| 0b00110000#8 := fun marks =>
    BitVec.or_assoc marks _ _
  cases hx : x.state
  case running | held =>
    cases level <;> simp [Charge.returned, Charge.doorAtReturn, hx, ChamberState.inRun, Charge.mark, Mark.join, hhold, satAdd,
      Config.maxShort]
  case doorHold =>
    cases level with
    | opened => simp [Charge.returned, Charge.doorAtReturn, hx, ChamberState.inRun, Charge.mark, Mark.join, hhold]
    | closed =>
      have hiff : x.settings.limitTicks < (d.hold.map (·.openTime)).getD 0 ↔
          ∃ h, d.hold = some h ∧ x.settings.doorLimit * 3840 < h.openTime := by
        cases d.hold <;> simp [Settings.limitTicks]
      simp only [← hiff, Charge.returned, Charge.doorAtReturn, hx]
      by_cases hpast : x.settings.limitTicks < (d.hold.map (·.openTime)).getD 0
      · simp [ChamberState.inRun, hpast, Charge.mark, hlong, satAdd, Config.maxCount]
      · simp [ChamberState.inRun, hpast, Charge.mark, Mark.join, hhold, satAdd, Config.maxCount]
  case empty | loaded | cooling | complete => simp [Charge.returned, hx, ChamberState.inRun]

/-- R95, R97: the ring of a chamber that is not EMPTY, by what POWER_RETURN meets there. -/
theorem ringReturned_cases (level : DoorLevel) {entry : RingEntry} (hstate : b.chamber.state ≠ .empty)
    (hentry : entry = b.returnEntry level (if b.ring.counter < 65535 then b.ring.counter + 1 else 0)) :
    (b.chamber.settings.ringEnables.getLsbD 4 = false → b.ringReturned level = b.ring) ∧
    (b.chamber.settings.ringEnables.getLsbD 4 = true → b.ring.counter ≤ 65535 →
      (b.ring.entries.length < 8 → b.ringReturned level = ⟨b.ring.entries ++ [entry], entry.seq, b.ring.overflow⟩) ∧
      (b.ring.entries.length = 8 → b.chamber.settings.ringMode = .overwrite →
        b.ringReturned level = ⟨b.ring.entries.drop 1 ++ [entry], entry.seq, b.ring.overflow⟩) ∧
      (b.ring.entries.length = 8 → b.chamber.settings.ringMode = .stop →
        b.ringReturned level = ⟨b.ring.entries, b.ring.counter, true⟩)) := by
  rw [Bay.ringReturned, if_neg hstate]
  refine ⟨fun hen => ?_, fun hen hcount => ?_⟩
  · have hgroup : b.chamber.settings.enables (.powerReturn b.chamber.state) = false := hen
    unfold EventRing.after
    rw [verdict_disabled hgroup]
  · have hgroup : b.chamber.settings.enables (.powerReturn b.chamber.state) = true := hen
    have hrecord : entry = b.returnEntry level ((b.ring.counter + 1) % 65536) := by rw [hentry, nextSeq_eq hcount]
    have hseq : entry.seq = (b.ring.counter + 1) % 65536 := congrArg RingEntry.seq hrecord
    rw [hrecord]
    refine ⟨fun hlen => ?_, fun hlen hmode => ?_, fun hlen hmode => ?_⟩
    · have hkept : b.ring.kept = b.ring.entries := if_pos hlen
      rw [after_entry (verdict_entry hgroup (.inl hlen)), hkept]
      rfl
    · have hkept : b.ring.kept = b.ring.entries.drop 1 := (if_neg hlen.not_lt).trans List.drop_one.symm
      rw [after_entry (verdict_entry hgroup (.inr hmode)), hkept]
      rfl
    · exact after_full (verdict_full hgroup hlen hmode)

end

/-! ### The notices of R87 and R98 -/

theorem heardAt_raised {n : Notice} {p : Port} (h : n.raisedTo p = true) (raised : Bool) :
    n.heardAt p raised = if raised = true then n.bit else 0#12 := by
  simp [Notice.heardAt, h]

theorem heardAt_elsewhere {n : Notice} {p : Port} (h : n.raisedTo p = false) (raised : Bool) : n.heardAt p raised = 0#12 := by
  simp [Notice.heardAt, h]

/-- R159, R169: the names pending at the three ports. -/
theorem pending_powerReturn (s : State) (d0 d1 d2 d3 : DoorLevel) {held ring : NoticeSet}
    (hheld : held = if ∃ c, (s.chamber c).state ∈ [.running, .held, .doorHold] then 0b000000100000#12 else 0#12)
    (hring : ring = if ∃ c, (s.bay c).rings = true then 0b000000010000#12 else 0#12) :
    ((s.powerReturn d0 d1 d2 d3).port .kiln).pending = held ||| ring ∧
    ((s.powerReturn d0 d1 d2 d3).port .line).pending = 0#12 ∧ ((s.powerReturn d0 d1 d2 d3).port .yard).pending = held := by
  have hrun : (allChambers.any fun c => (s.bay c).chamber.state.inRun) = true ↔
      ∃ c, (s.chamber c).state ∈ [.running, .held, .doorHold] :=
    any_allChambers.trans (exists_congr fun _ => inRun_iff)
  have hheld' : ∀ p, Notice.held.raisedTo p = true →
      Notice.held.heardAt p (allChambers.any fun c => (s.bay c).chamber.state.inRun) = held := fun p hp => by
    rw [heardAt_raised hp, hheld]
    exact if_congr hrun rfl rfl
  have hring' : Notice.ring.heardAt .kiln (allChambers.any fun c => (s.bay c).rings) = ring := by
    rw [heardAt_raised rfl, hring]
    exact if_congr any_allChambers rfl rfl
  simp only [port_powerReturn]
  rw [hheld' .kiln rfl, hheld' .yard rfl, hring', heardAt_elsewhere (n := .held) (p := .line) rfl,
    heardAt_elsewhere (n := .ring) (p := .line) rfl, heardAt_elsewhere (n := .ring) (p := .yard) rfl]
  simp

/-- R8: no two chambers are bound to one charge. -/
theorem chargeSlot_ne_of_linked {s : State} (hs : s.Linked) {c d : ChamberNo} {k : Fin 8} (hc : (s.chamber c).chargeSlot = some k)
    (hne : c ≠ d) : (s.chamber d).chargeSlot ≠ some k := by
  obtain ⟨-, hbound, -⟩ := hs
  intro hd
  obtain ⟨a, ha, hac, -⟩ := hbound c k hc
  obtain ⟨b, hb, hbd, -⟩ := hbound d k hd
  obtain rfl := Option.some.inj (ha.symm.trans hb)
  exact hne (Option.some.inj (hac.symm.trans hbd))

/-- Settles O48: power, ports and links are set first and the four chambers come back one after another. What a return leaves is
left; each chamber, its door, its ring and its charge are those of its own return, and the names pending are those the returns
raised. -/
theorem powerReturns : Obligations.PowerReturns := by
  intro d0 d1 d2 d3 s hm hh
  have hexec := exec_clearedStart_held (d0 := d0) (d1 := d1) (d2 := d2) (d3 := d3) hm hh
  have hchamber := chamber_powerReturn s d0 d1 d2 d3
  have hmonitor := monitor_powerReturn s d0 d1 d2 d3
  have hring := eventRing_powerReturn s d0 d1 d2 d3
  have hport := port_powerReturn s d0 d1 d2 d3
  have hpending := fun held ring => pending_powerReturn (held := held) (ring := ring) s d0 d1 d2 d3
  have hunbound := fun k => charge_powerReturn_unbound (k := k) s d0 d1 d2 d3
  have hbound := fun k c => charge_powerReturn_bound (k := k) (c := c) s d0 d1 d2 d3
  obtain ⟨_, _, _, _, _, ht⟩ := returns_powerReturn s d0 d1 d2 d3
  rw [ht] at hexec hchamber hmonitor hring hport hpending hunbound hbound
  refine ⟨_, exec_powerReturn_eq.trans hexec, hexec, rfl, rfl, rfl, rfl, rfl, rfl, rfl, rfl, rfl, rfl, rfl, rfl, rfl, rfl, rfl,
    rfl, rfl, rfl, rfl, rfl, rfl, tallyStuck_iff, rfl, ?ports, ?pending, hunbound, ?chambers⟩
  case ports =>
    intro p
    rw [hport]
    exact ⟨rfl, rfl, rfl⟩
  case pending =>
    intro held ring hheld hraised
    exact hpending held ring hheld (hraised.trans (if_congr (exists_congr fun c => (rings_iff (b := s.bay c)).symm) rfl rfl))
  case chambers =>
    intro c level state hold hlevel hcase
    obtain ⟨hstate, hdoor⟩ := returned_cases hcase
    subst hlevel hstate
    refine ⟨(hmonitor c).trans hdoor, ?chamber, fun hempty => (hring c).trans (if_pos hempty), ?ring, ?charge⟩
    case chamber =>
      rintro x hx
      obtain rfl := hx.symm.trans (hchamber c)
      obtain ⟨hreturn, hresume, hcountdown⟩ := returned_fields (s.chamber c) (levelAt d0 d1 d2 d3 c)
      refine ⟨rfl, ?_, hreturn, hresume, hcountdown, ?_⟩ <;> rw [returned_eq]
    case ring =>
      rintro r st entry hne rfl rfl hentry
      rw [hring]
      exact ringReturned_cases (b := s.bay c) _ hne hentry
    case charge =>
      intro k ch hlinked hslot hch
      rw [hbound k c hslot fun d => chargeSlot_ne_of_linked hlinked hslot, hch, Option.map_some, chargeReturned_eq]
      rfl

end Sys2Proof.Machine
end

-- ==== Proofs: the label queue's requests and the label record ====
section
/-! Chapter 8 and R176: NEXT-LABEL, ACK-LABEL and REPRINT case by case, and the label record as fields laid end to end. -/

namespace Sys2Proof.Machine

/-! ### Fields laid end to end -/

/-- The offsets are those of fields laid end to end, the first of them at `start`. -/
def Abut : Nat → List (Nat × List Byte) → Prop
  | _, [] => True
  | start, (offset, bytes) :: fields => offset = start ∧ Abut (start + bytes.length) fields

/-- In the bytes of fields laid end to end, every field stands at its offset. -/
theorem take_drop_of_abut {start : Nat} {fields : List (Nat × List Byte)} (h : Abut start fields) {before : List Byte}
    (hbefore : before.length = start) {field : Nat × List Byte} (hmem : field ∈ fields) :
    ((before ++ fields.flatMap Prod.snd).drop field.1).take field.2.length = field.2 := by
  induction fields generalizing start before with
  | nil => cases hmem
  | cons first fields ih =>
    obtain ⟨rfl, hfields⟩ := h
    rw [List.flatMap_cons]
    obtain rfl | hmem := List.mem_cons.1 hmem
    · rw [← hbefore, List.drop_left, List.take_left]
    · rw [← List.append_assoc]
      exact ih hfields (by rw [List.length_append, hbefore]) hmem

/-! ### The bytes of a field -/

@[simp] theorem u8_length (n : Nat) : (u8 n).length = 1 := rfl
@[simp] theorem u16_length (n : Nat) : (u16 n).length = 2 := rfl
@[simp] theorem u32_length (n : Nat) : (u32 n).length = 4 := rfl
@[simp] theorem DrawOutcome.field_length (o : DrawOutcome) : o.field.length = 10 := rfl

@[simp] theorem invalidable_length (o : Option Nat) : (invalidable o).length = 2 := by
  cases o <;> rfl

/-- A presence byte stands before the value or the zeros in its place. -/
theorem optField_length {α : Type} {width : Nat} {enc : α → List Byte} (h : ∀ a, (enc a).length = width) (o : Option α) :
    (optField width enc o).length = width + 1 := by
  cases o with
  | none => simp [optField]
  | some a => simp [optField, h]

@[simp] theorem optField_u16_length (o : Option Nat) : (optField 2 u16 o).length = 3 := optField_length u16_length o

@[simp] theorem optField_outcome_length (o : Option DrawOutcome) : (optField 10 DrawOutcome.field o).length = 11 :=
  optField_length DrawOutcome.field_length o

/-- Two bytes come back from the number they carry (R174). -/
theorem u16_nat16 (hi lo : Byte) : u16 (nat16 hi lo) = [hi, lo] := by
  have hbyte : ∀ (b : Byte) (n : Nat), n % 256 = b.toNat → BitVec.ofNat 8 n = b := fun b n h => BitVec.eq_of_toNat_eq h
  rw [u16, nat16, hbyte hi _ (by omega), hbyte lo _ (by omega)]

/-! ### The label record -/

/-- The fields of a label at their offsets (R176). -/
def labelFields (p : Pack) (l : Label) : List (Nat × List Byte) :=
  [(0x00, u16 p.number), (0x02, u16 p.chargeId), (0x04, optField 2 u16 p.parent), (0x07, u8 p.species.val),
    (0x08, u8 p.schedule.val), (0x09, u8 p.thickness), (0x0A, u16 p.width), (0x0C, u16 p.target), (0x0E, u16 p.nominalLength),
    (0x10, u32 p.openTime.seconds), (0x14, u8 p.openTime.sixtyFourths), (0x15, u8 l.closeCause.code),
    (0x16, u32 l.closeTime.seconds), (0x1A, u8 l.closeTime.sixtyFourths), (0x1B, u16 p.boards), (0x1D, u16 p.measured),
    (0x1F, u16 p.unmeasured), (0x21, u32 p.totalLength), (0x25, u32 l.volume), (0x29, optField 2 u16 l.meanMc),
    (0x2C, optField 2 u16 (if p.measured = 0 then none else p.maxMc)), (0x2F, u16 l.targetMc),
    (0x31, invalidable l.finalWettestHalf), (0x33, u8 l.finalCount), (0x34, u32 l.kilnStart), (0x38, u32 l.kilnEnd),
    (0x3C, u16 l.doorOpenings), (0x3E, u16 l.doorMinutes), (0x40, [l.marks]), (0x41, optField 10 DrawOutcome.field l.outcome),
    (0x4C, u8 l.grade.code), (0x4D, u8 (boolCode l.timeUnsure))]

section
variable (p : Pack) (l : Label)

theorem labelRecord_eq_flatMap : labelRecord p l = (labelFields p l).flatMap Prod.snd := by
  have hmarks : u8 l.marks.toNat = [l.marks] := by simp [u8]
  unfold labelRecord
  simp only [hmarks, Stamp.field, labelFields, List.flatMap_cons, List.flatMap_nil, List.append_nil, List.append_assoc]

theorem abut_labelFields : Abut 0 (labelFields p l) := by
  simp [labelFields, Abut]

theorem labelRecord_length : (labelRecord p l).length = 78 := by
  simp [labelRecord_eq_flatMap, labelFields]

theorem labelRecord_field {field : Nat × List Byte} (h : field ∈ labelFields p l) :
    ((labelRecord p l).drop field.1).take field.2.length = field.2 := by
  rw [labelRecord_eq_flatMap]
  exact take_drop_of_abut (abut_labelFields p l) (before := []) rfl h

end

/-- A number high byte first, in the widths a label has (R174). -/
theorem num_eq {num : Nat → Nat → List Byte}
    (hnum : ∀ w n, num w n = (List.range w).map fun i => BitVec.ofNat 8 (n / 256 ^ (w - 1 - i))) :
    num 1 = u8 ∧ num 2 = u16 ∧ num 4 = u32 := by
  refine ⟨funext fun n => ?_, funext fun n => ?_, funext fun n => ?_⟩ <;>
    simp [hnum, List.range_succ, u8, u16, u32]

/-! ### The oldest pack in a state -/

section
variable {s : State} {st : PackState} {k : Fin 16} {p : Pack} {before after : List (Fin 16)}

theorem packIn_eq_true : s.packIn st k = true ↔ ∃ p, s.pack k = some p ∧ p.state = st := by
  unfold State.packIn
  cases s.pack k <;> simp

theorem oldestInQueue_eq_none (h : ∀ j ∈ s.labelQueue, s.packIn st j = false) : s.oldestInQueue st = none := by
  cases hf : s.oldestInQueue st with
  | none => rfl
  | some r =>
    obtain ⟨older, newer, hq, -⟩ := oldestInQueue_split (k := r.1) (p := r.2) hf
    have hin := packIn_eq_true.2 ⟨r.2, oldestInQueue_some hf⟩
    simp [h r.1 (by simp [hq])] at hin

/-- The first pack of the queue in a state is the oldest in it (R143). -/
theorem oldestInQueue_eq_some (hq : s.labelQueue = before ++ k :: after) (hbefore : ∀ j ∈ before, s.packIn st j = false)
    (hk : s.pack k = some p) (hp : p.state = st) : s.oldestInQueue st = some (k, p) := by
  refine List.findSome?_eq_some_iff.2 ⟨before, k, after, hq, by simp [hk, hp], fun j hj => ?_⟩
  have hnot : ∀ q, s.pack j = some q → q.state ≠ st := fun q hjq hst => by
    simpa [hbefore j hj] using packIn_eq_true.2 ⟨q, hjq, hst⟩
  cases hjq : s.pack j with
  | none => rfl
  | some q => simp [hnot q hjq]

/-- A pack behind another one in the state is not the oldest in it. -/
theorem oldestInQueue_ne (hq : s.labelQueue = before ++ k :: after) (hk : k ∉ before)
    (hbefore : ∃ j ∈ before, s.packIn st j = true) : (s.oldestInQueue st).map (·.1) ≠ some k := by
  intro h
  obtain ⟨⟨i, p⟩, hf, rfl⟩ := Option.map_eq_some_iff.1 h
  obtain ⟨older, newer, hsplit, hold⟩ := oldestInQueue_split hf
  obtain ⟨j, hj, hin⟩ := hbefore
  obtain ⟨q, hjq, hst⟩ := packIn_eq_true.1 hin
  have hnot : j ∉ older := fun hmem => hold j hmem q hjq hst
  obtain ⟨more, rfl, -⟩ | ⟨more, rfl, hmore⟩ := List.append_eq_append_iff.1 (hq.symm.trans hsplit)
  · exact hnot (List.mem_append_left _ hj)
  · cases more with
    | nil => exact hnot (by simpa using hj)
    | cons m more =>
      obtain ⟨rfl, -⟩ := List.cons.inj hmore
      exact hk (by simp)

end

/-! ### NEXT-LABEL, ACK-LABEL and REPRINT at the pack table -/

section
variable {s : State} {k : Fin 16} {p : Pack} {l : Label} {before after : List (Fin 16)} {hi lo : Byte} {rest : List Byte}

theorem nextLabelOwner_none (h : ∀ k ∈ s.labelQueue, s.packIn .closed k = false) :
    nextLabelOwner s = refuse .none s := by
  rw [nextLabelOwner, oldestInQueue_eq_none h]
  rfl

theorem nextLabelOwner_taken (hq : s.labelQueue = before ++ k :: after) (hbefore : ∀ j ∈ before, s.packIn .closed j = false)
    (hk : s.pack k = some p) (hp : p.state = .closed) (hl : p.label = some l) :
    nextLabelOwner s = took (s.setPack k (some { p with state := .issued })) (labelRecord p l) := by
  simp only [nextLabelOwner, oldestInQueue_eq_some hq hbefore hk hp, hl]

/-- The number 0 and a number no pack has name no pack. -/
theorem packNamed_eq_none (h : nat16 hi lo = 0 ∨ ∀ k, ∀ p ∈ s.pack k, p.number ≠ nat16 hi lo) :
    (if nat16 hi lo = 0 then none else s.packByNumber (nat16 hi lo)) = none := by
  refine ite_eq_left_iff.2 fun h0 => Option.eq_none_iff_forall_ne_some.2 ?_
  rintro ⟨k, p⟩ hf
  obtain ⟨hk, hnumber⟩ := packByNumber_some hf
  exact h.resolve_left h0 k p hk hnumber

theorem ackLabelOwner_noPack (h : nat16 hi lo = 0 ∨ ∀ k, ∀ p ∈ s.pack k, p.number ≠ nat16 hi lo) :
    ackLabelOwner (hi :: lo :: rest) s = refuse .noPack s := by
  simp only [ackLabelOwner, packNamed_eq_none h]

theorem reprintOwner_noPack (h : nat16 hi lo = 0 ∨ ∀ k, ∀ p ∈ s.pack k, p.number ≠ nat16 hi lo) :
    reprintOwner (hi :: lo :: rest) s = refuse .noPack s := by
  simp only [reprintOwner, packNamed_eq_none h]

section
variable (h0 : nat16 hi lo ≠ 0) (hf : s.packByNumber (nat16 hi lo) = some (k, p))
include h0 hf

theorem ackLabelOwner_notIssued (hp : p.state ≠ .issued) : ackLabelOwner (hi :: lo :: rest) s = refuse .notIssued s := by
  simp [ackLabelOwner, h0, hf, hp]

theorem ackLabelOwner_notOldest (hp : p.state = .issued) (hold : (s.oldestInQueue .issued).map (·.1) ≠ some k) :
    ackLabelOwner (hi :: lo :: rest) s = refuse .notOldest s := by
  simp only [ackLabelOwner, if_neg h0, hf]
  exact (if_neg (by simp [hp])).trans (if_pos (bne_iff_ne.2 hold))

theorem ackLabelOwner_taken (hp : p.state = .issued) (hold : s.oldestInQueue .issued = some (k, p)) :
    ackLabelOwner (hi :: lo :: rest) s =
      took { s.setPack k none with labelQueue := s.labelQueue.filter (· != k) }
        ([hi, lo] ++ u8 (s.labelQueue.filter (· != k)).length) := by
  simp [ackLabelOwner, h0, hf, hp, hold, u16_nat16]

theorem reprintOwner_notIssued (hp : p.state ≠ .issued) : reprintOwner (hi :: lo :: rest) s = refuse .notIssued s := by
  simp [reprintOwner, h0, hf, hp]

theorem reprintOwner_taken (hp : p.state = .issued) (hl : p.label = some l) :
    reprintOwner (hi :: lo :: rest) s = took s (labelRecord p l) := by
  simp [reprintOwner, h0, hf, hp, hl]

end

/-- A queue without one of its packs, which it holds once. -/
theorem filter_ne_append_cons (hbefore : k ∉ before) (hafter : k ∉ after) :
    (before ++ k :: after).filter (· != k) = before ++ after := by
  have hkept : ∀ {queue : List (Fin 16)}, k ∉ queue → queue.filter (· != k) = queue := fun hk =>
    List.filter_eq_self.2 fun j hj => bne_iff_ne.2 fun he => hk (he ▸ hj)
  simp [hkept hbefore, hkept hafter]

end

/-- Settles O45: the record is its fields laid end to end, so each stands at its offset; and the owner of each request answers by
the place its pack has in the queue, which the port passes on. -/
theorem labelRequests : Obligations.LabelRequests := by
  refine ⟨fun p l num opt hnum hopt => ⟨labelRecord_length p l, fun field hfield => labelRecord_field p l ?_⟩,
    fun tag rest s ht => ⟨fun h => ?_, fun before after k p l hq hbefore hk hp hl => ?_, fun hi lo => ⟨fun h => ⟨?_, ?_⟩, ?_⟩⟩⟩
  · obtain ⟨h1, h2, h4⟩ := num_eq hnum
    have hopt2 : opt 2 = optField 2 u16 := funext fun o => by cases o <;> simp [hopt, h2, optField]
    refine Eq.mp (congrArg (field ∈ ·) ?_) hfield
    simp only [labelFields, h1, h2, h4, hopt2, List.cons.injEq, Prod.mk.injEq, true_and, and_true]
    refine ⟨?cause, ?final, ?outcome, ?grade, ?unsure⟩
    case cause => cases l.closeCause <;> rfl
    case final => cases l.finalWettestHalf <;> rfl
    case outcome => cases l.outcome <;> rfl
    case grade => cases l.grade <;> rfl
    case unsure => cases l.timeUnsure <;> rfl
  · exact request_taken ht rfl (nextLabelOwner_none h)
  · exact request_taken ht rfl (nextLabelOwner_taken hq hbefore hk hp hl)
  · exact request_refused ht rfl (ackLabelOwner_noPack h)
  · exact request_refused ht rfl (reprintOwner_noPack h)
  · intro k p h0 hf
    refine ⟨fun hp => ⟨?_, ?_⟩, fun hp => ⟨fun before after hq hkb => ⟨fun hbefore => ?_, fun hbefore hka => ?_⟩, fun l hl => ?_⟩⟩
    · exact request_refused ht rfl (ackLabelOwner_notIssued h0 hf hp)
    · exact request_refused ht rfl (reprintOwner_notIssued h0 hf hp)
    · exact request_refused ht rfl (ackLabelOwner_notOldest h0 hf hp (oldestInQueue_ne hq hkb hbefore))
    · have hold := oldestInQueue_eq_some hq hbefore (packByNumber_some hf).1 hp
      have htaken := ackLabelOwner_taken (rest := rest) h0 hf hp hold
      rw [hq, filter_ne_append_cons hkb hka] at htaken
      exact request_taken ht rfl htaken
    · exact request_taken ht rfl (reprintOwner_taken h0 hf hp hl)

end Sys2Proof.Machine
end

-- ==== Proofs: a step with a command waiting ====
section
/-! The commands as rows: a step with a command waiting, beside `step_of_idle`, which is the step with none. -/

namespace Sys2Proof.Machine

/-- With a command waiting a step is the meaning of that command, run with the rest of the queue waiting. -/
theorem step_of_pending {i : Instr} {rest : List Instr} {s : State} (h : s.pending = i :: rest) :
    step s = exec i { s with pending := rest } := by
  unfold step
  rw [h]

/-- Settles O1: the step of a queue that is not empty, for every command at its front. -/
theorem stepTakesFront : Obligations.StepTakesFront :=
  fun _ _ _ h => step_of_pending h

end Sys2Proof.Machine
end
